-- ==== Sys2Proof/Word.lean ====
section
/-! DEFINITION. The words of the station: the bit vectors that the spec treats as bits, and vectors that the kernel can evaluate. -/

namespace Sys2Proof

/-- One byte on the control port (R161). -/
abbrev Byte := BitVec 8

/-- A set of channels 0 to 15, channel n being bit n (R173, R176). -/
abbrev Mask := BitVec 16

/-- A counter value (R10) or an episode number (section 0.5.3). -/
abbrev Word32 := BitVec 32

/-- A group time in microseconds (section 0.5.2). -/
abbrev Time := BitVec 48

/-- A station address as read from SA0 to SA4; 0 is no peer's address (section 0.5.3). -/
abbrev Address := BitVec 5

/-- The greatest group time, 2^48 − 1 µs (R87). -/
def Time.limit : Time := BitVec.allOnes 48

/-- The greatest episode number, 4,294,967,295 (section 0.5.3). -/
def Word32.limit : Word32 := BitVec.allOnes 32

/-- The vector of the values of `f` at 0 to n − 1. -/
def vecOf (n : Nat) {α : Type} (f : Fin n → α) : Vector α n :=
  ⟨((List.finRange n).map f).toArray, by simp⟩

end Sys2Proof
end

