-- ==== Sys2Proof/Syntax.lean ====
section
/-! DEFINITION. The commands of the station: one constructor for each row of spec/opcode_table.json. -/

namespace Sys2Proof

/-- The level at a pin. -/
inductive Level where
  | low
  | high
  deriving DecidableEq, Repr

/-- The direction of a qualified edge (R1). -/
inductive Dir where
  | rise
  | fall
  deriving DecidableEq, Repr

/-- The three restart kinds (R151 to R153). -/
inductive RestartCause where
  | power
  | hard
  | soft
  deriving DecidableEq, Repr

/-- A cause that a trigger request carries (R97). -/
inductive OwnCause where
  | unit (k : Fin 4)
  | software
  deriving DecidableEq, Repr

/-- The fields of a TRIGGER message (R55). -/
structure TriggerMessage where
  sender : Address
  number : Word32
  originTime : Time
  cause : OwnCause
  deriving DecidableEq, Repr

/-- The fields of a BEACON message (R55, R173). `rollCall` is the restart cause where the flags include
ROLLCALL, and absent otherwise. -/
structure BeaconMessage where
  sender : Address
  time : Time
  highest : Word32
  interval : Byte
  busy : Bool
  groupHold : Bool
  localHold : Bool
  rollCall : Option RestartCause
  deriving DecidableEq, Repr

/-- The bit that ends an attempt in error (R58). -/
inductive BitError where
  /-- The start bit, sent dominant and read recessive: a line-fault bit before any bit stands on the line. -/
  | startBit
  /-- A later bit sent dominant and read recessive. -/
  | lineFault
  /-- A bit outside the arbitration field sent recessive and read dominant. -/
  | foreign
  deriving DecidableEq, Repr

/-- One constructor per row of spec/opcode_table.json, in the table's order, with what the event carries. -/
inductive Instr where
  /-- The pin of EVn takes this level (R1). -/
  | linePinChange (n : Fin 16) (level : Level)
  /-- The qualification timer of line n reaches the time in force (R1). -/
  | qualificationTimerExpiry (n : Fin 16)
  /-- The VETO pin takes this level (R6). -/
  | vetoPinChange (level : Level)
  /-- The timing of VETO reaches 10 µs (R6). -/
  | vetoQualificationExpiry
  /-- The window timer of unit k reaches W (R42, R43). -/
  | windowExpiry (k : Fin 4)
  /-- The post-time timer reaches its limit (R115). -/
  | postTimeExpiry
  /-- The hold-limit timer reaches the hold limit (R125). -/
  | holdLimitExpiry
  /-- Eleven consecutive recessive bits have been read (R66). -/
  | lineFree
  /-- The station sends the start bit of its head entry (R61). -/
  | attemptStart
  /-- The station sends a recessive arbitration bit and reads dominant (R57). -/
  | arbitrationLoss
  /-- The attempt meets this bit error (R58, R63). -/
  | attemptFailure (e : BitError)
  /-- The attempt's eighth end bit is read back without error (R62). -/
  | attemptSuccess
  /-- A fill violation, class 3 or a dominant end bit (R67). -/
  | messageAbandon
  /-- The message assembled is invalid at its eighth end bit (R68). -/
  | messageInvalid
  /-- A valid message bears the station's own address and is not its own attempt (R69). -/
  | ownAddressMessage
  /-- A valid TRIGGER is received (R103). -/
  | triggerReceived (m : TriggerMessage)
  /-- A valid BEACON is received (R77). -/
  | beaconReceived (m : BeaconMessage)
  /-- A valid CLEAR COUNTERS is received (R12). -/
  | clearCountersReceived (sender : Address) (mask : Mask)
  /-- A valid HOLD is received (R130). -/
  | holdReceived (sender : Address)
  /-- A valid RESUME is received (R130). -/
  | resumeReceived (sender : Address)
  /-- The silence timer of the peer at this address reaches its limit (R75). -/
  | silenceTimerExpiry (a : Address)
  /-- The beacon timer reaches I (R78). -/
  | beaconTimerExpiry
  /-- The roll-call timer reaches 2 × I (R83). -/
  | rollCallExpiry
  /-- Group time reaches 2^48 − 1 µs (R87). -/
  | groupTimeLimit
  /-- The supply reaches its operating level; the SA pins stand at this level (R151). -/
  | powerRestart (sa : Address)
  /-- The supply falls below its operating level (R151). -/
  | supplyLoss
  /-- RESET falls low (R152). -/
  | resetLow
  /-- RESET rises; the SA pins stand at this level (R152). -/
  | hardRestart (sa : Address)
  /-- STATUS (R164). -/
  | status
  /-- WRITE CONFIG: item code, line or unit number, seven value bytes, byte 0 most significant (R156). -/
  | writeConfig (item index : Byte) (value : BitVec 56)
  /-- READ CONFIG: item code, line or unit number (R160). -/
  | readConfig (item index : Byte)
  /-- CLOSE CONFIG (R158). -/
  | closeConfig
  /-- READ COUNTERS (R15). -/
  | readCounters
  /-- READ PEER (R165). -/
  | readPeer (address : Byte)
  /-- READ HISTORY (R26). -/
  | readHistory
  /-- READ HISTORY NEXT (R28). -/
  | readHistoryNext (n : Byte)
  /-- LIST EPISODES (R142). -/
  | listEpisodes
  /-- SELECT EPISODE (R143). -/
  | selectEpisode (slot : Byte)
  /-- READ HEADER (R144). -/
  | readHeader
  /-- READ RECORDS (R145). -/
  | readRecords (n : Byte)
  /-- RELEASE EPISODE (R146). -/
  | releaseEpisode (slot : Byte)
  /-- SOFTWARE TRIGGER (R166). -/
  | softwareTrigger
  /-- CLOSE EPISODE (R167). -/
  | closeEpisode
  /-- SET LOCAL HOLD (R168). -/
  | setLocalHold (value : Byte)
  /-- SEND GROUP COMMAND: command code and channel mask (R133). -/
  | sendGroupCommand (code : Byte) (mask : Mask)
  /-- REJOIN (R86). -/
  | rejoin
  /-- RESTART; the SA pins stand at this level when the SOFT restart is taken (R153). -/
  | restart (sa : Address)
  /-- ACK ATTENTION (R170). -/
  | ackAttention (mask : Byte)
  /-- In IDLE, a dominant bit of a peer (R66). -/
  | startBitReceived
  /-- CS rises on fewer bytes than the command needs (R163). -/
  | shortTransaction
  /-- CS rises on a command byte that names no command (R163). -/
  | unknownCommand
  deriving DecidableEq, Repr

end Sys2Proof
end

