-- ==== Sys2Proof/Decode.lean ====
section
/-! DEFINITION. What bits spell a command. The table gives no row bits; the transactions of the control port spell the host commands (R163, R176). -/

namespace Sys2Proof

/-- No row of spec/opcode_table.json has bits, so no word spells a command. -/
def decodeTableWord (_nbits _w : Nat) : Option Instr :=
  none

/-- The number whose bytes these are, most significant first (Chapter 11). -/
def natOfBytes (bs : List Byte) : Nat :=
  bs.foldl (fun acc b => acc * 256 + b.toNat) 0

/-- The k low bytes of n, most significant first (Chapter 11). -/
def bytesOfNat : Nat → Nat → List Byte
  | 0, _ => []
  | k + 1, n => bytesOfNat k (n / 256) ++ [BitVec.ofNat 8 n]

/-- The bits sampled at SDI from the levels that SCK and SDI take one after the other, SCK having stood at `sck`
before: one at each rising edge of SCK (R161). -/
def sampledBits (sck : Level) : List (Level × Bool) → List Bool
  | [] => []
  | (next, sdi) :: rest =>
    if sck = .low ∧ next = .high then sdi :: sampledBits next rest else sampledBits next rest

/-- The complete bytes of the bits sampled at SDI in one transaction, most significant bit first; bits of a final
byte left incomplete are discarded (R161). -/
def completeBytes : List Bool → List Byte
  | b7 :: b6 :: b5 :: b4 :: b3 :: b2 :: b1 :: b0 :: rest =>
    BitVec.ofBoolListBE [b7, b6, b5, b4, b3, b2, b1, b0] :: completeBytes rest
  | _ => []

/-- The number of argument bytes that a command code needs (R176), where the code names a command. -/
def argumentBytes : Nat → Option Nat
  | 1 => some 0
  | 2 => some 9
  | 3 => some 2
  | 4 => some 0
  | 5 => some 0
  | 6 => some 1
  | 7 => some 0
  | 8 => some 1
  | 9 => some 0
  | 10 => some 1
  | 11 => some 0
  | 12 => some 1
  | 13 => some 1
  | 14 => some 0
  | 15 => some 0
  | 16 => some 1
  | 17 => some 3
  | 18 => some 0
  | 19 => some 0
  | 20 => some 1
  | _ => none

/-- The host command of a code and its argument bytes (R176). Bytes beyond those needed are disregarded (R163).
`sa` is the level of the SA pins, which a RESTART reads. -/
def hostCommand (sa : Address) (code : Nat) (args : List Byte) : Option Instr :=
  match code, args with
  | 1, _ => some .status
  | 2, c :: i :: v => some (.writeConfig c i (BitVec.ofNat 56 (natOfBytes (v.take 7))))
  | 3, c :: i :: _ => some (.readConfig c i)
  | 4, _ => some .closeConfig
  | 5, _ => some .readCounters
  | 6, a :: _ => some (.readPeer a)
  | 7, _ => some .readHistory
  | 8, n :: _ => some (.readHistoryNext n)
  | 9, _ => some .listEpisodes
  | 10, s :: _ => some (.selectEpisode s)
  | 11, _ => some .readHeader
  | 12, n :: _ => some (.readRecords n)
  | 13, s :: _ => some (.releaseEpisode s)
  | 14, _ => some .softwareTrigger
  | 15, _ => some .closeEpisode
  | 16, v :: _ => some (.setLocalHold v)
  | 17, c :: m => some (.sendGroupCommand c (BitVec.ofNat 16 (natOfBytes (m.take 2))))
  | 18, _ => some .rejoin
  | 19, _ => some (.restart sa)
  | 20, m :: _ => some (.ackAttention m)
  | _, _ => none

/-- The command that a transaction's complete bytes complete at CS rise (R163): too few bytes are a short
transaction, a byte that names no command is an unknown command. -/
def commandOfTransaction (sa : Address) (bytes : List Byte) : Instr :=
  match bytes with
  | [] => .shortTransaction
  | code :: args =>
    match argumentBytes code.toNat with
    | none => .unknownCommand
    | some k => if args.length < k then .shortTransaction else (hostCommand sa code.toNat args).getD .unknownCommand

/-- The transaction that carries a host command (R176); absent for the other rows. -/
def transactionOf : Instr → Option (List Byte)
  | .status => some [1#8]
  | .writeConfig c i v => some (2#8 :: c :: i :: bytesOfNat 7 v.toNat)
  | .readConfig c i => some [3#8, c, i]
  | .closeConfig => some [4#8]
  | .readCounters => some [5#8]
  | .readPeer a => some [6#8, a]
  | .readHistory => some [7#8]
  | .readHistoryNext n => some [8#8, n]
  | .listEpisodes => some [9#8]
  | .selectEpisode s => some [10#8, s]
  | .readHeader => some [11#8]
  | .readRecords n => some [12#8, n]
  | .releaseEpisode s => some [13#8, s]
  | .softwareTrigger => some [14#8]
  | .closeEpisode => some [15#8]
  | .setLocalHold v => some [16#8, v]
  | .sendGroupCommand c m => some (17#8 :: c :: bytesOfNat 2 m.toNat)
  | .rejoin => some [18#8]
  | .restart _ => some [19#8]
  | .ackAttention m => some [20#8, m]
  | .linePinChange _ _ | .qualificationTimerExpiry _ | .vetoPinChange _ | .vetoQualificationExpiry
  | .windowExpiry _ | .postTimeExpiry | .holdLimitExpiry | .lineFree | .attemptStart | .arbitrationLoss
  | .attemptFailure _ | .attemptSuccess | .messageAbandon | .messageInvalid | .ownAddressMessage
  | .triggerReceived _ | .beaconReceived _ | .clearCountersReceived _ _ | .holdReceived _
  | .resumeReceived _ | .silenceTimerExpiry _ | .beaconTimerExpiry | .rollCallExpiry | .groupTimeLimit
  | .powerRestart _ | .supplyLoss | .resetLow | .hardRestart _ | .startBitReceived | .shortTransaction
  | .unknownCommand => none

end Sys2Proof
end

