-- ==== Sys2Proof/Config.lean ====
section
/-! DEFINITION. The free values: what the spec leaves open and the model does not fix. None has a body. -/

namespace Sys2Proof.Config

/-- The k-th free choice of an order: which of several timers due in one microsecond is taken first, and in
which order the trigger units take one offer ("in either order", R44, R49). Log 3. -/
opaque choice : Nat → Nat

/-- Whether READ PEER reports a time since last heard of this many µs, which is no whole number of ms, as the
next greater ms; R165 names the unit and not the rounding. Log 14. -/
opaque roundsUp : Nat → Bool

/-- Bytes 4 to 6 of the value READ CONFIG returns for a number, a mask or a named value, by item code and
index; R176 calls them disregarded and gives them no value. Log 15. -/
opaque disregardedBytes : Nat → Nat → BitVec 24

end Sys2Proof.Config
end

