-- ==== Sys2Proof/Machine/Types.lean ====
section
/-! DEFINITION. The plain data of each block: the types that State is made of. -/

namespace Sys2Proof.Machine

/-! ### Configuration (Chapter 9) -/

/-- The four bit rates (R51). -/
inductive BitRate where
  | kbit125
  | kbit250
  | kbit500
  | kbit1000
  deriving DecidableEq, Repr

/-- Which directions of a line's edges are recorded (R3). -/
inductive RecordSetting where
  | never
  | rise
  | fall
  | both
  deriving DecidableEq, Repr

/-- The edge of a LINE condition (R35). -/
inductive EdgeSelect where
  | rise
  | fall
  | either
  deriving DecidableEq, Repr

/-- The compare of a COUNTER condition (R36). -/
inductive Compare where
  | eq
  | ne
  | lt
  | gt
  deriving DecidableEq, Repr

/-- A condition of a trigger unit (section 3.1). -/
inductive Condition where
  | empty
  | line (n : Fin 16) (edge : EdgeSelect)
  | counter (c : Fin 16) (compare : Compare) (limit : Word32)
  | remote (station : Address)
  deriving DecidableEq, Repr

/-- The combinators (section 3.4). -/
inductive Combinator where
  | any
  | both
  | sequence
  | aUnlessB
  deriving DecidableEq, Repr

/-- The six settings of one trigger unit (section 3.1). -/
structure UnitSettings where
  enable : Bool
  condA : Condition
  condB : Condition
  combinator : Combinator
  window : Nat
  count : Nat
  deriving DecidableEq, Repr

/-- The configuration items (section 9.2.2). Times are in the unit of the item's table. -/
structure Settings where
  bitRate : BitRate
  beaconInterval : Nat
  preCount : Nat
  postCount : Nat
  postTime : Nat
  reserve : Nat
  holdLimit : Nat
  snapshotMask : Mask
  resetMask : Mask
  vetoMask : Mask
  qualTime : Vector Nat 16
  recordSetting : Vector RecordSetting 16
  countingEdge : Vector Dir 16
  units : Vector UnitSettings 4
  attentionMask : BitVec 6
  deriving DecidableEq, Repr

/-- The window state (R155). -/
inductive Window where
  | isOpen
  | closed
  deriving DecidableEq, Repr

/-- The configuration block: items and window state. -/
structure Configuration where
  items : Settings
  window : Window
  deriving DecidableEq, Repr

/-- A configuration item, with its line or unit where it is held per line or per unit (section 9.2.2). -/
inductive Item where
  | bitRate
  | beaconInterval
  | preCount
  | postCount
  | postTime
  | reserve
  | holdLimit
  | snapshotMask
  | resetMask
  | vetoMask
  | qualTime (n : Fin 16)
  | recordSetting (n : Fin 16)
  | countingEdge (n : Fin 16)
  | enable (k : Fin 4)
  | condA (k : Fin 4)
  | condB (k : Fin 4)
  | combinator (k : Fin 4)
  | window (k : Fin 4)
  | count (k : Fin 4)
  | attentionMask
  deriving DecidableEq, Repr

/-! ### Station, pins and supply -/

/-- The reasons of MUTE (R84). -/
inductive MuteReason where
  | noAddress
  | conflict
  | lineFault
  deriving DecidableEq, Repr

/-- The station states (section 0.2.3); MUTE holds its reason (R84). -/
inductive Mode where
  | config
  | rollCall
  | active
  | mute (reason : MuteReason)
  deriving DecidableEq, Repr

/-- Supply and RESET (R151, R152). `powerOnRelease` is set while RESET has been low since before the supply
rose, so that its release is a POWER restart. -/
structure Power where
  supply : Bool
  resetPin : Level
  powerOnRelease : Bool
  deriving DecidableEq, Repr

/-- The station state and address: the level at SA0 to SA4 and the address read from it (R72). -/
structure Station where
  mode : Mode
  saPins : Address
  address : Address
  deriving DecidableEq, Repr

/-! ### Line inputs (Chapter 1) -/

/-- The phase of an input; PENDING holds the moment its timer started and the time in force (R1). -/
inductive Phase where
  | steady
  | pending (since inForce : Nat)
  deriving DecidableEq, Repr

/-- One input: the level at its pin, its qualified level and its phase (section 1.1.1). For VETO, HIGH stands
for ACTIVE (section 1.2.1). -/
structure LineInput where
  pin : Level
  level : Level
  phase : Phase
  deriving DecidableEq, Repr

/-- The line inputs block. -/
structure Lines where
  ev : Vector LineInput 16
  veto : LineInput
  deriving DecidableEq, Repr

/-! ### History ring (Chapter 2) -/

/-- The cause codes of an ANCHOR value (R23, R173). -/
inductive CauseCode where
  | own (c : OwnCause)
  | remote
  deriving DecidableEq, Repr

/-- The flags of an ANCHOR record (R23). -/
inductive AnchorFlag where
  | origin
  | follow
  | localOpening
  deriving DecidableEq, Repr

/-- The flags of a SUPPRESSED record (R23). -/
inductive SuppressedFlag where
  | hold
  | noSlot
  | expired
  | numbersExhausted
  deriving DecidableEq, Repr

/-- The flags of a REMOTE-TRIGGER record (R23). -/
inductive RemoteFlag where
  | stale
  | late
  | notCaptured
  deriving DecidableEq, Repr

/-- Kind, source, value and flags of a record, by kind (R22, R23). The source of a SUPPRESSED record is its
cause: the unit, or none for SOFTWARE. -/
inductive RecordBody where
  | edge (n : Fin 16) (value : Word32) (dir : Dir)
  | wrap (n : Fin 16)
  | vetoOn
  | vetoOff
  | fire (k : Fin 4) (count : Nat)
  | anchor (cause : CauseCode) (flag : AnchorFlag)
  | suppressed (cause : OwnCause) (flag : SuppressedFlag)
  | remoteTrigger (sender : Address) (number : Word32) (flag : Option RemoteFlag)
  | gap (count : Word32)
  | timeStep (sender : Address) (size : Time)
  | peerLost (a : Address)
  | peerBack (a : Address)
  | peerRestart (a : Address) (cause : RestartCause)
  deriving DecidableEq, Repr

/-- A history record (section 2.1.1). -/
structure Record where
  seq : BitVec 16
  time : Time
  body : RecordBody
  deriving DecidableEq, Repr

/-- The history cursor (section 2.4.1). -/
inductive Cursor where
  | notStarted
  | valid (seq : BitVec 16)
  | waiting (seq : BitVec 16)
  | lost (seq : BitVec 16)
  deriving DecidableEq, Repr

/-- The history ring: its records, oldest first, the next sequence number and the cursor. -/
structure Ring where
  records : List Record
  nextSeq : BitVec 16
  cursor : Cursor
  deriving DecidableEq, Repr

/-! ### Trigger units (Chapter 3) -/

/-- The state of an armed unit; WAIT-B holds the moment its window timer started (R42, R43). -/
inductive UnitPhase where
  | waitA
  | waitB (since : Nat)
  deriving DecidableEq, Repr

/-- What an armed unit holds (section 3.2.1). A compare result is held where its condition is a COUNTER one. -/
structure ArmedUnit where
  phase : UnitPhase
  remaining : Nat
  lastA : Option Nat
  lastB : Option Nat
  compareA : Option Bool
  compareB : Option Bool
  deriving DecidableEq, Repr

/-- A trigger unit (section 3.2.1). -/
inductive TriggerUnit where
  | disabled
  | armed (u : ArmedUnit)
  deriving DecidableEq, Repr

/-- An offer to the trigger units (R34). A clear carries the counters it changed. -/
inductive Offer where
  | edge (n : Fin 16) (dir : Dir) (newValue : Option Word32)
  | cleared (changed : List (Fin 16))
  | trigger (sender : Address)
  deriving DecidableEq, Repr

/-! ### Group line (Chapter 4) -/

/-- The three group commands (R133). -/
inductive GroupCommand where
  | clearCounters
  | hold
  | resume
  deriving DecidableEq, Repr

/-- The fields of a GROUP COMMAND message (R55). -/
structure CommandMessage where
  sender : Address
  command : GroupCommand
  argument : Mask
  deriving DecidableEq, Repr

/-- A message of the group line (R54, R55). -/
inductive Message where
  | trigger (m : TriggerMessage)
  | command (m : CommandMessage)
  | beacon (m : BeaconMessage)
  deriving DecidableEq, Repr

/-- The BEACON place of the transmit list; `again` is a BEACON marked to be sent again (R60). -/
inductive BeaconEntry where
  | absent
  | listed
  | again
  deriving DecidableEq, Repr

/-- The transmit list (R59): at most one TRIGGER, the GROUP COMMANDs oldest first, at most one BEACON. -/
structure TransmitList where
  trigger : Bool
  commands : List (GroupCommand × Mask)
  beacon : BeaconEntry
  deriving DecidableEq, Repr

/-- The attempt in progress: the message formed at its start bit (R61), and whether its TRIGGER has been
withdrawn since (R64). -/
structure Attempt where
  message : Message
  withdrawn : Bool
  deriving DecidableEq, Repr

/-- The states of the receive assembly (section 4.5.1). -/
inductive RxState where
  | off
  | waitFree
  | idle
  | receiving
  deriving DecidableEq, Repr

/-- The group line transceiver. `latch` is the group time at the start bit of the message that is being
assembled (R66); it is absent when no message is being assembled. -/
structure Link where
  list : TransmitList
  attempt : Option Attempt
  failures : Nat
  rx : RxState
  latch : Option Time
  rate : BitRate
  deriving DecidableEq, Repr

/-! ### Peers and time (Chapter 5) -/

/-- The state of a peer entry (section 5.1.1). -/
inductive PeerState where
  | absent
  | present
  | lost
  deriving DecidableEq, Repr

/-- An entry of the peer table (section 5.1.1). -/
structure PeerEntry where
  state : PeerState
  interval : Option Byte
  lastHeard : Option Nat
  highest : Option Word32
  busy : Bool
  groupHold : Bool
  localHold : Bool
  rollCallMark : Bool
  deriving DecidableEq, Repr

/-- The peer monitor. The table is indexed by address; the places of address 0 and of the station's own
address hold no entry and stay ABSENT (log 25). Timers are held as the moment they started. -/
structure PeerMonitor where
  table : Vector PeerEntry 32
  beaconTimer : Option Nat
  rollCallTimer : Option Nat
  holdMark : Bool
  restartCause : RestartCause
  deriving DecidableEq, Repr

/-- The time base (R87): group time, whether its count has stopped at the limit, and local elapsed time. -/
structure TimeBase where
  group : Time
  stopped : Bool
  elapsed : Nat
  deriving DecidableEq, Repr

/-! ### Episodes (Chapters 6 to 8) -/

/-- The roles (R96). -/
inductive Role where
  | originator
  | coTriggered
  | follower
  | localRole
  deriving DecidableEq, Repr

/-- The claim states (R95). -/
inductive Claim where
  | unannounced
  | announced
  | learned
  deriving DecidableEq, Repr

/-- The end statuses (R114). -/
inductive EndStatus where
  | full
  | timed
  | cutByNext
  | cutByHost
  | cutByRestart
  | truncated
  deriving DecidableEq, Repr

/-- A cause entry of a header (R117): an own cause, or REMOTE with the station and its cause code; each with
its fire time. -/
inductive CauseEntry where
  | own (c : OwnCause) (fireTime : Time)
  | remote (station : Address) (code : OwnCause) (fireTime : Time)
  deriving DecidableEq, Repr

/-- The header flags (R117). -/
structure HeaderFlags where
  gapBefore : Bool
  timeStepped : Bool
  causesOverflow : Bool
  truncatedPre : Bool
  deriving DecidableEq, Repr

/-- An episode header (R117). The end status is absent until the close. -/
structure Header where
  slot : Fin 8
  number : Option Word32
  role : Role
  originator : Option Address
  anchorTime : Time
  originTime : Option Time
  causes : List CauseEntry
  preCount : Nat
  postCount : Nat
  snapshot : List (Fin 16 × Word32)
  endStatus : Option EndStatus
  flags : HeaderFlags
  deriving DecidableEq, Repr

/-- What a non-FREE slot holds: header and record list (R139). -/
structure Episode where
  header : Header
  records : List Record
  deriving DecidableEq, Repr

/-- A slot (R135). -/
inductive Slot where
  | free
  | filling (e : Episode)
  | complete (e : Episode)
  deriving DecidableEq, Repr

/-- The episode store: slots, free record entries, opening-order list, and the selection with its readout
cursor (Chapter 8). -/
structure Store where
  slots : Vector Slot 8
  freeEntries : Nat
  order : List (Fin 8)
  selection : Option (Fin 8 × Nat)
  deriving DecidableEq, Repr

/-- What the controller holds while an episode is open (R95): its slot, claim state, renumber floor, and the
moment its post-time timer started. -/
structure OpenEpisode where
  slot : Fin 8
  claim : Claim
  floor : Option Word32
  timer : Nat
  deriving DecidableEq, Repr

/-- An OCCUPIED held trigger register (section 7.3): causes with fire times in order of entry, the moment its
timer started, and the overflow mark. -/
structure HeldTrigger where
  causes : List (OwnCause × Time)
  since : Nat
  overflow : Bool
  deriving DecidableEq, Repr

/-- The episode controller; `register` is absent when the held trigger register is EMPTY. -/
structure Controller where
  highest : Word32
  gapMark : Bool
  current : Option OpenEpisode
  localHold : Bool
  groupHold : Bool
  ownBusy : Bool
  groupBusy : Bool
  register : Option HeldTrigger
  deriving DecidableEq, Repr

/-! ### Control port (Chapter 10) -/

/-- The result codes (R162). -/
inductive Result where
  | ok
  | noneYet
  | short
  | unknown
  | refusedState
  | range
  | invalid
  | closed
  | notFound
  | notComplete
  | noSelection
  | atEnd
  | queueFull
  deriving DecidableEq, Repr

/-- The six attention flags (R169). -/
inductive Attention where
  | closed
  | suppressed
  | peer
  | hold
  | muted
  | restarted
  deriving DecidableEq, Repr

/-- What the controller decided on a SOFTWARE TRIGGER (R166). -/
inductive Decision where
  | suppressed (flag : SuppressedFlag)
  | added (slot : Fin 8)
  | notAdded (slot : Fin 8)
  | opened (slot : Fin 8) (number : Option Word32)
  | held
  | merged
  | notMerged
  deriving DecidableEq, Repr

/-- The fields of a STATUS response (R164). -/
structure StatusReport where
  mode : Mode
  address : Address
  restartCause : RestartCause
  openSlot : Option (Fin 8)
  claim : Option Claim
  occupied : Bool
  ownBusy : Bool
  groupBusy : Bool
  localHold : Bool
  groupHold : Bool
  freeSlots : Nat
  freeEntries : Nat
  highest : Word32
  groupTime : Time
  failures : Nat
  attention : BitVec 6
  attentionMask : BitVec 6
  deriving DecidableEq, Repr

/-- The fields of a READ PEER response (R165); the time since last heard is in ms. -/
structure PeerReport where
  state : PeerState
  interval : Option Byte
  sinceHeard : Option Nat
  highest : Option Word32
  busy : Bool
  groupHold : Bool
  localHold : Bool
  rollCallMark : Bool
  deriving DecidableEq, Repr

/-- An entry of a LIST EPISODES response (R142); the end status is absent for a FILLING slot. -/
structure Listing where
  slot : Fin 8
  complete : Bool
  number : Option Word32
  role : Role
  held : Nat
  endStatus : Option EndStatus
  deriving DecidableEq, Repr

/-- The response fields of each command (R15, R26, R28, R142, R144, R145, R158, R160, R164 to R168, R170). -/
inductive Body where
  | empty
  | status (r : StatusReport)
  | config (item index : Byte) (value : BitVec 56)
  | invalid (item : Item)
  | counters (values : Vector Word32 16) (levels : Vector Level 16) (veto : Level) (time : Time)
  | peer (r : PeerReport)
  | history (present : Nat) (oldest : Option (BitVec 16)) (next : BitVec 16)
  | skipped
  | records (rs : List Record)
  | episodes (freeSlots freeEntries : Nat) (entries : List Listing)
  | header (h : Header) (held : Nat)
  | slotRecords (first remaining : Nat) (rs : List Record)
  | software (d : Decision) (fireTime : Time)
  | closed (slot : Fin 8) (number : Option Word32)
  | holds (localHold groupHold : Bool)
  | acknowledged (before after : BitVec 6)
  deriving DecidableEq, Repr

/-- The held response (R162). -/
structure Response where
  result : Result
  body : Body
  deriving DecidableEq, Repr

/-- The bus of the port (R161): no transaction while CS is high; one in progress, begun at the fall of CS; or one in
progress that began before RESET went low, to be discarded when CS rises. -/
inductive Bus where
  | idle
  | begun
  | cutOff
  deriving DecidableEq, Repr

/-- The control port: held response, attention flags, bit by bit as R176 numbers them, and the bus. -/
structure Port where
  response : Response
  attention : BitVec 6
  bus : Bus
  deriving DecidableEq, Repr

end Sys2Proof.Machine
end

