-- ==== Sys2Proof/Machine/Defaults.lean ====
section
/-! DEFINITION. The values that a restart gives to each block: the defaults of section 9.2.2 and the power-on values of each chapter. -/

namespace Sys2Proof.Machine

/-- The defaults of a trigger unit (section 3.1, R30). -/
def defaultUnit : UnitSettings :=
  { enable := false, condA := .empty, condB := .empty, combinator := .any, window := 1000, count := 1 }

/-- The defaults of every configuration item (section 9.2.2). -/
def defaultSettings : Settings :=
  { bitRate := .kbit250
    beaconInterval := 10
    preCount := 32
    postCount := 128
    postTime := 100
    reserve := 128
    holdLimit := 50
    snapshotMask := BitVec.allOnes 16
    resetMask := 0#16
    vetoMask := 0#16
    qualTime := Vector.replicate 16 10
    recordSetting := Vector.replicate 16 .both
    countingEdge := Vector.replicate 16 .rise
    units := Vector.replicate 4 defaultUnit
    attentionMask := BitVec.allOnes 6 }

/-- The configuration after a POWER or HARD restart (R151, R152). -/
def defaultConfiguration : Configuration :=
  { items := defaultSettings, window := .isOpen }

/-- A line input that takes the level at its pin as its qualified level (R5). -/
def restartedLine (pin : Level) : LineInput :=
  { pin := pin, level := pin, phase := .steady }

/-- VETO after a POWER or HARD restart: INACTIVE, and timed toward 10 µs if its pin is HIGH (R9). -/
def restartedVeto (pin : Level) (now : Nat) : LineInput :=
  { pin := pin, level := .low, phase := match pin with
      | .low => .steady
      | .high => .pending now 10 }

/-- The counters after any restart (R16). -/
def clearedCounters : Vector Word32 16 :=
  Vector.replicate 16 0#32

/-- The ring after any restart (R29). -/
def emptyRing : Ring :=
  { records := [], nextSeq := 0#16, cursor := .notStarted }

/-- Disarmed units (R32). -/
def disarmedUnits : Vector TriggerUnit 4 :=
  Vector.replicate 4 .disabled

/-- The empty transmit list (R59). -/
def emptyList : TransmitList :=
  { trigger := false, commands := [], beacon := .absent }

/-- The transceiver after a POWER or HARD restart (R71). -/
def restartedLink : Link :=
  { list := emptyList, attempt := none, failures := 0, rx := .off, latch := none, rate := .kbit250 }

/-- An ABSENT peer entry (R72). -/
def absentPeer : PeerEntry :=
  { state := .absent, interval := none, lastHeard := none, highest := none
    busy := false, groupHold := false, localHold := false, rollCallMark := false }

/-- The peer monitor after a restart of kind `cause` (R72, R78, R82). -/
def restartedPeers (cause : RestartCause) : PeerMonitor :=
  { table := Vector.replicate 32 absentPeer, beaconTimer := none, rollCallTimer := none
    holdMark := false, restartCause := cause }

/-- The time base after a POWER restart (R87). Local elapsed time starts from 0 (log 17). -/
def powerOnTime : TimeBase :=
  { group := 0#48, stopped := false, elapsed := 0 }

/-- The episode controller after a POWER restart (R118, R128, R132). -/
def powerOnController : Controller :=
  { highest := 0#32, gapMark := false, current := none, localHold := false, groupHold := false
    ownBusy := false, groupBusy := false, register := none }

/-- The store after a POWER restart (R148). -/
def emptyStore : Store :=
  { slots := Vector.replicate 8 .free, freeEntries := 1024, order := [], selection := none }

/-- The held response after any restart (R162). -/
def noResponse : Response :=
  { result := .noneYet, body := .empty }

/-- The port after a POWER restart: RESTARTED alone is set (R169). -/
def powerOnPort : Port :=
  { response := noResponse, attention := 32#6, bus := .idle }

end Sys2Proof.Machine
end

