-- ==== Sys2Proof/Machine/State.lean ====
section
/-! DEFINITION. The state of the station, its faults and refusals, and the state right after reset. -/

namespace Sys2Proof.Machine

/-- Why a step can stop with a fault: never. The spec answers every command it refuses with a result code
(R162) and names no event that stops the station, so no meaning raises a fault, and the type has no
constructor. Safe: nothing is claimed of a stop. -/
inductive Fault where
  deriving DecidableEq, Repr

/-- Why a step can be refused. -/
inductive Refusal where
  /-- Raised by an arm of `exec` whose command has no meaning yet; no arm is left in that state. Safe: the
  model stops where the station goes on. -/
  | notModelled (mnemonic : String)
  deriving DecidableEq, Repr

/-- Everything the spec gives the station, block by block, the model's own `offers`, `choice` and `openRises`, and the
queue of waiting commands, first in, first out. -/
structure State where
  power : Power
  station : Station
  config : Configuration
  lines : Lines
  counters : Vector Word32 16
  ring : Ring
  units : Vector TriggerUnit 4
  link : Link
  peers : PeerMonitor
  time : TimeBase
  ctrl : Controller
  store : Store
  port : Port
  /-- Offers brought to the trigger units and not yet taken (R34, log 11). -/
  offers : List Offer
  /-- How many free choices of order have been made (log 3). -/
  choice : Nat
  /-- How often the OPEN output has risen (R172, log 33). -/
  openRises : Nat
  /-- The commands waiting, oldest first. -/
  pending : List Instr
  deriving DecidableEq, Repr

/-- A station that has just taken a POWER restart (R151), with these levels at its pins: EV0 to EV15, VETO and
SA0 to SA4. -/
def State.afterPower (ev : Vector Level 16) (veto : Level) (sa : Address) : State :=
  { power := { supply := true, resetPin := .high, powerOnRelease := false }
    station := { mode := .config, saPins := sa, address := sa }
    config := defaultConfiguration
    lines := { ev := vecOf 16 (fun n => restartedLine ev[n]), veto := restartedVeto veto 0 }
    counters := clearedCounters
    ring := emptyRing
    units := disarmedUnits
    link := restartedLink
    peers := restartedPeers .power
    time := powerOnTime
    ctrl := powerOnController
    store := emptyStore
    port := powerOnPort
    offers := []
    choice := 0
    openRises := 0
    pending := [] }

/-- The station right after reset: a POWER restart with every EV pin, VETO and the SA pins LOW (log 4). -/
def State.reset : State :=
  State.afterPower (Vector.replicate 16 .low) .low 0#5

end Sys2Proof.Machine
end

