-- ==== Sys2Proof/Machine/Ops.lean ====
section
/-! DEFINITION. Named operations: one update per block, time and timers, the order of simultaneous events, offers, lines, counters and peer entries. -/

namespace Sys2Proof.Machine

/-! ### One update per block -/

def State.setPower (s : State) (x : Power) : State :=
  { s with power := x }

def State.setStation (s : State) (x : Station) : State :=
  { s with station := x }

def State.setConfig (s : State) (x : Configuration) : State :=
  { s with config := x }

def State.setLines (s : State) (x : Lines) : State :=
  { s with lines := x }

def State.setCounters (s : State) (x : Vector Word32 16) : State :=
  { s with counters := x }

def State.setRing (s : State) (x : Ring) : State :=
  { s with ring := x }

def State.setUnits (s : State) (x : Vector TriggerUnit 4) : State :=
  { s with units := x }

def State.setLink (s : State) (x : Link) : State :=
  { s with link := x }

def State.setPeers (s : State) (x : PeerMonitor) : State :=
  { s with peers := x }

def State.setTime (s : State) (x : TimeBase) : State :=
  { s with time := x }

def State.setCtrl (s : State) (x : Controller) : State :=
  { s with ctrl := x }

def State.setStore (s : State) (x : Store) : State :=
  { s with store := x }

def State.setPort (s : State) (x : Port) : State :=
  { s with port := x }

def State.setOffers (s : State) (x : List Offer) : State :=
  { s with offers := x }

def State.setChoice (s : State) (x : Nat) : State :=
  { s with choice := x }

def State.setOpenRises (s : State) (x : Nat) : State :=
  { s with openRises := x }

def State.setPending (s : State) (x : List Instr) : State :=
  { s with pending := x }

/-! ### Power, time and timers -/

/-- The station takes events: its supply is at the operating level and RESET is not held low (R151, R152). -/
def State.running (s : State) : Bool :=
  s.power.supply && s.power.resetPin == .high

/-- The present moment of local elapsed time (section 0.5.2). -/
def State.now (s : State) : Nat :=
  s.time.elapsed

/-- A timer that started at `since` has reached `limit` µs (section 0.5.2). -/
def reached (now since limit : Nat) : Bool :=
  limit ≤ now - since

/-- Milliseconds in µs. -/
def ms (n : Nat) : Nat :=
  1000 * n

/-- The station may send on the group line: ROLLCALL or ACTIVE (R60). -/
def Mode.transmits : Mode → Bool
  | .rollCall => true
  | .active => true
  | .config => false
  | .mute _ => false

/-- The station is MUTE. -/
def Mode.isMute : Mode → Bool
  | .mute _ => true
  | .config => false
  | .rollCall => false
  | .active => false

/-- The station enters a station state (section 0.2.3). -/
def State.setMode (s : State) (m : Mode) : State :=
  s.setStation { s.station with mode := m }

/-- One microsecond of the station's clock (R87): local elapsed time goes on, and group time counts unless it
has stopped or stands at its limit. -/
def TimeBase.tick (t : TimeBase) : TimeBase :=
  { t with elapsed := t.elapsed + 1
           group := if t.stopped || t.group == Time.limit then t.group else t.group + 1#48 }

/-! ### Orders that the spec leaves open -/

/-- `a` put into `l` at place `k`, or at the end if `l` is shorter. -/
def putAt {α : Type} (a : α) : Nat → List α → List α
  | 0, l => a :: l
  | _ + 1, [] => [a]
  | k + 1, b :: l => b :: putAt a k l

/-- The elements of a list in a free order, which starts from the k-th free choice (R44, R49, log 3). A list of
at most one element has one order. -/
def freeOrder {α : Type} (k : Nat) : List α → List α
  | [] => []
  | [a] => [a]
  | a :: b :: l => putAt a (Config.choice k % (l.length + 2)) (freeOrder (k + 1) (b :: l))

/-- How many free choices `freeOrder` makes on a list of this length. -/
def choicesFor (n : Nat) : Nat :=
  n - 1

/-! ### Offers, lines, counters, peers -/

/-- Brings an offer to the trigger units; they take it after the offers brought before it (R34, log 11). -/
def State.bring (s : State) (o : Offer) : State :=
  s.setOffers (s.offers ++ [o])

/-- The line input of EVn. -/
def State.line (s : State) (n : Fin 16) : LineInput :=
  s.lines.ev[n]

/-- Sets the line input of EVn. -/
def State.setLine (s : State) (n : Fin 16) (x : LineInput) : State :=
  s.setLines { s.lines with ev := s.lines.ev.set n x }

/-- Sets the VETO input. -/
def State.setVeto (s : State) (x : LineInput) : State :=
  s.setLines { s.lines with veto := x }

/-- Channel n is in the mask (R173, R176). -/
def inMask (m : Mask) (n : Fin 16) : Bool :=
  m.getLsbD n

/-- The channels of a mask whose counter is not 0: those that a clear changes (R11). -/
def changedBy (m : Mask) (bank : Vector Word32 16) : List (Fin 16) :=
  (List.finRange 16).filter (fun n => inMask m n && bank[n] != 0#32)

/-- The counters with those of the mask at 0 (R12, R14). -/
def clearedBy (m : Mask) (bank : Vector Word32 16) : Vector Word32 16 :=
  vecOf 16 (fun n => if inMask m n then 0#32 else bank[n])

/-- Clears the counters of a mask and offers the clear, if it changed a counter, as one offer (R11, R34). -/
def clearCounters (m : Mask) (s : State) : State :=
  let changed := changedBy m s.counters
  let s1 := s.setCounters (clearedBy m s.counters)
  if changed.isEmpty then s1 else s1.bring (.cleared changed)

/-- The peer table's place for an address. -/
def State.peer (s : State) (a : Address) : PeerEntry :=
  s.peers.table[a.toNat]'a.isLt

/-- Sets the peer table's place for an address. -/
def State.setPeer (s : State) (a : Address) (e : PeerEntry) : State :=
  s.setPeers { s.peers with table := s.peers.table.set a.toNat e a.isLt }

end Sys2Proof.Machine
end

