-- ==== Sys2Proof/Machine/Flags.lean ====
section
/-! DEFINITION. Attention flags and the output pins, own BUSY, peers-busy and the beacon request. -/

namespace Sys2Proof.Machine

/-! ### Attention flags, ATTN and OPEN (sections 10.4 and 10.5) -/

/-- The bit of an attention flag (R176). -/
def Attention.index : Attention → Nat
  | .closed => 0
  | .suppressed => 1
  | .peer => 2
  | .hold => 3
  | .muted => 4
  | .restarted => 5

/-- The set that holds one flag. -/
def Attention.bit (f : Attention) : BitVec 6 :=
  BitVec.twoPow 6 f.index

/-- Sets an attention flag; one already set stays set (R169). -/
def State.raise (s : State) (f : Attention) : State :=
  s.setPort { s.port with attention := s.port.attention ||| f.bit }

/-- Whether an attention flag is set. -/
def State.flagged (s : State) (f : Attention) : Bool :=
  s.port.attention.getLsbD f.index

/-- The level of ATTN, LOW when it is pulled low (R171). -/
def State.attnPin (s : State) : Level :=
  if s.running && (s.port.attention &&& s.config.items.attentionMask) != 0#6 then .low else .high

/-- The level of OPEN between commands (R172). Where one command closes an episode and opens the next, OPEN falls and
rises within it, and `openRises` counts the rise. -/
def State.openPin (s : State) : Level :=
  if s.running && s.ctrl.current.isSome then .high else .low

/-- OPEN rises at step 6 of an opening (R101, R172). It does not where RESET is low, and OPEN with it (log 33). -/
def State.riseOpen (s : State) : State :=
  if s.running then s.setOpenRises (s.openRises + 1) else s

/-! ### The beacon request (R78) and the transmit list (R60) -/

/-- A BEACON attempt is in progress. -/
def Link.sendsBeacon (l : Link) : Bool :=
  match l.attempt with
  | some ⟨.beacon _, _⟩ => true
  | some ⟨.trigger _, _⟩ => false
  | some ⟨.command _, _⟩ => false
  | none => false

/-- What a beacon request makes of the BEACON place (R60): it adds a BEACON, is absorbed by one that waits, or
marks one whose attempt is in progress. -/
def Link.requestBeacon (l : Link) : Link :=
  { l with list := { l.list with beacon := match l.list.beacon with
      | .absent => .listed
      | .listed => if l.sendsBeacon then .again else .listed
      | .again => .again } }

/-- The peer monitor requests a beacon in ROLLCALL and ACTIVE, and not in CONFIG or MUTE (R78). -/
def State.requestBeacon (s : State) : State :=
  if s.station.mode.transmits then s.setLink s.link.requestBeacon else s

/-! ### BUSY (sections 7.1 and 7.2) -/

/-- A slot is FREE. -/
def Slot.isFree : Slot → Bool
  | .free => true
  | .filling _ => false
  | .complete _ => false

/-- The number of FREE slots (R135). -/
def Store.freeSlots (st : Store) : Nat :=
  st.slots.toList.countP Slot.isFree

/-- The value own BUSY has by the counts and R (R119). -/
def State.busyByCounts (s : State) : Bool :=
  s.store.freeSlots == 0 || decide (s.store.freeEntries < s.config.items.reserve)

/-- The peers-busy indication: an entry is PRESENT with BUSY set (R76). -/
def State.peersBusy (s : State) : Bool :=
  s.peers.table.toList.any (fun e => e.state == .present && e.busy)

/-- Evaluates own BUSY (R119). A change requests a beacon and re-evaluates group busy (R120, R121); the
examination of the held trigger register that a fall of group busy calls for is the caller's. -/
def updateBusy (s : State) : State :=
  let b := s.busyByCounts
  if b == s.ctrl.ownBusy then s
  else
    let s1 := (s.setCtrl { s.ctrl with ownBusy := b }).requestBeacon
    s1.setCtrl { s1.ctrl with groupBusy := b || s1.peersBusy }

end Sys2Proof.Machine
end

