-- ==== Sys2Proof/Machine/History.lean ====
section
/-! DEFINITION. The history ring: writing a record, and reading through the host's cursor (Chapter 2). -/

namespace Sys2Proof.Machine

/-- The most records the ring holds (R18). -/
def ringCapacity : Nat := 256

/-- The record that a write gives its sequence number and its time (R19, R20). -/
def stamp (b : RecordBody) (s : State) : Record :=
  { seq := s.ring.nextSeq, time := s.time.group, body := b }

/-- The ring is full, so a write removes its oldest record (R18). -/
def Ring.full (r : Ring) : Bool :=
  decide (ringCapacity ≤ r.records.length)

/-- How a write moves the cursor (R27): WAITING becomes VALID at the record written, and VALID becomes LOST
when its record is the one removed. -/
def Ring.moveCursor (r : Ring) (rec : Record) : Cursor :=
  match r.cursor with
  | .notStarted => .notStarted
  | .waiting q => if q = rec.seq then .valid q else .waiting q
  | .valid q => if r.full && (r.records.head?.map Record.seq == some q) then .lost q else .valid q
  | .lost q => .lost q

/-- A write at the ring (R18, R20, R27). -/
def Ring.put (r : Ring) (rec : Record) : Ring :=
  { records := (if r.full then r.records.tail else r.records) ++ [rec]
    nextSeq := r.nextSeq + 1#16
    cursor := r.moveCursor rec }

/-- The newest n records, oldest of them first (R25). -/
def Ring.newest (r : Ring) (n : Nat) : List Record :=
  r.records.drop (r.records.length - n)

/-- READ HISTORY puts the cursor at the oldest record present, or at the next one to be written (R26). -/
def Ring.restartCursor (r : Ring) : Ring :=
  { r with cursor := match r.records with
      | [] => .waiting r.nextSeq
      | rec :: _ => .valid rec.seq }

/-- The records from the one of this sequence number to the newest. -/
def Ring.since (r : Ring) (q : BitVec 16) : List Record :=
  r.records.dropWhile (fun rec => rec.seq != q)

/-- The cursor after a read that leaves these records unread (R28). -/
def Ring.cursorAt (r : Ring) (unread : List Record) : Cursor :=
  match unread with
  | [] => .waiting r.nextSeq
  | rec :: _ => .valid rec.seq

/-- READ HISTORY NEXT with a count in range (R28): the ring after it and the response. -/
def Ring.readNext (r : Ring) (n : Nat) : Ring × Response :=
  match r.cursor with
  | .notStarted => (r, { result := .noSelection, body := .empty })
  | .lost _ => (r.restartCursor, { result := .ok, body := .skipped })
  | .valid q =>
    ({ r with cursor := r.cursorAt ((r.since q).drop n) },
      { result := .ok, body := .records ((r.since q).take n) })
  | .waiting _ => (r, { result := .atEnd, body := .empty })

end Sys2Proof.Machine
end

