-- ==== Sys2Proof/Machine/Store.lean ====
section
/-! DEFINITION. The episode store: slots and pool (sections 8.1 to 8.3), and the host's listing, selection and readout (section 8.4). -/

namespace Sys2Proof.Machine

/-- The record entries of the pool (R136). -/
def poolSize : Nat := 1024

/-- The slot at an index. -/
def Store.slot (st : Store) (i : Fin 8) : Slot :=
  st.slots[i]

/-- Sets the slot at an index. -/
def Store.setSlot (st : Store) (i : Fin 8) (x : Slot) : Store :=
  { st with slots := st.slots.set i x }

/-- The lowest-indexed FREE slot (R137). -/
def Store.lowestFree (st : Store) : Option (Fin 8) :=
  (List.finRange 8).find? (fun i => (st.slot i).isFree)

/-- What a slot holds, if it is not FREE. -/
def Slot.episode : Slot → Option Episode
  | .free => none
  | .filling e => some e
  | .complete e => some e

/-- The record entries a slot holds (R136). -/
def Slot.held : Slot → Nat
  | .free => 0
  | .filling e => e.records.length
  | .complete e => e.records.length

/-- The record entries all slots hold. -/
def Store.held (st : Store) : Nat :=
  (st.slots.toList.map Slot.held).sum

/-- The test made before an opening: a FREE slot and a free record entry (R98, R99, R108, R137). -/
def Store.hasRoom (st : Store) : Bool :=
  st.lowestFree.isSome && decide (1 ≤ st.freeEntries)

/-- The close at the store: the FILLING slot becomes COMPLETE with its end status (R140). -/
def Store.complete (st : Store) (i : Fin 8) (e : EndStatus) : Store :=
  match st.slot i with
  | .free => st
  | .complete _ => st
  | .filling ep => st.setSlot i (.complete { ep with header := { ep.header with endStatus := some e } })

/-- The record appended to an episode, whose post count rises by 1 (R138). -/
def Episode.append (e : Episode) (r : Record) : Episode :=
  { header := { e.header with postCount := e.header.postCount + 1 }, records := e.records ++ [r] }

/-- The number of pre-records an opening copies: P, the records in the ring, or the entries left after the
ANCHOR's, whichever is smallest (R101, R137). -/
def preRecordCount (p inRing entriesLeft : Nat) : Nat :=
  min p (min inRing entriesLeft)

/-- TRUNCATED-PRE: the entries left were fewer than both P and the records in the ring (R101). -/
def preTruncated (p inRing entriesLeft : Nat) : Bool :=
  decide (entriesLeft < p) && decide (entriesLeft < inRing)

/-- The entry of a slot in LIST EPISODES (R142). -/
def Store.listing (st : Store) (i : Fin 8) : Option Listing :=
  match st.slot i with
  | .free => none
  | .filling e =>
    some { slot := i, complete := false, number := e.header.number, role := e.header.role
           held := e.records.length, endStatus := none }
  | .complete e =>
    some { slot := i, complete := true, number := e.header.number, role := e.header.role
           held := e.records.length, endStatus := e.header.endStatus }

/-- LIST EPISODES (R142). -/
def Store.list (st : Store) : Response :=
  { result := .ok, body := .episodes st.freeSlots st.freeEntries (st.order.filterMap st.listing) }

/-- The slot index an argument byte names, if it is 0 to 7 (R143, R146). -/
def slotIndex (b : Byte) : Option (Fin 8) :=
  if h : b.toNat < 8 then some ⟨b.toNat, h⟩ else none

/-- SELECT EPISODE (R143): the store after it and the result. -/
def Store.select (st : Store) (b : Byte) : Store × Result :=
  match slotIndex b with
  | none => (st, .range)
  | some i =>
    match st.slot i with
    | .free => (st, .notFound)
    | .filling _ => (st, .notComplete)
    | .complete _ => ({ st with selection := some (i, 0) }, .ok)

/-- The episode selected, with its slot and cursor. -/
def Store.selected (st : Store) : Option (Fin 8 × Nat × Episode) :=
  match st.selection with
  | none => none
  | some (i, pos) => (st.slot i).episode.map (fun e => (i, pos, e))

/-- READ HEADER (R144). -/
def Store.readHeader (st : Store) : Response :=
  match st.selected with
  | none => { result := .noSelection, body := .empty }
  | some (_, _, e) => { result := .ok, body := .header e.header e.records.length }

/-- READ RECORDS with a count in range (R145): the store after it and the response. -/
def Store.readRecords (st : Store) (n : Nat) : Store × Response :=
  match st.selected with
  | none => (st, { result := .noSelection, body := .empty })
  | some (i, pos, e) =>
    if e.records.length ≤ pos then (st, { result := .atEnd, body := .empty })
    else
      let rs := (e.records.drop pos).take n
      ({ st with selection := some (i, pos + rs.length) },
        { result := .ok, body := .slotRecords pos (e.records.length - (pos + rs.length)) rs })

/-- Releases a COMPLETE slot: its records return to the pool, it becomes FREE, leaves the opening-order list,
and a selection of it is cleared (steps 1 to 3 of R146). -/
def Store.release (st : Store) (i : Fin 8) (e : Episode) : Store :=
  { slots := st.slots.set i .free
    freeEntries := st.freeEntries + e.records.length
    order := st.order.filter (fun j => j != i)
    selection := match st.selection with
      | none => none
      | some (j, pos) => if j = i then none else some (j, pos) }

end Sys2Proof.Machine
end

