-- ==== Sys2Proof/Machine/Capture.lean ====
section
/-! DEFINITION. The episode controller: closing, writing a record while an episode is open, opening, originating, the held trigger register and trigger requests (Chapters 6 and 7). -/

namespace Sys2Proof.Machine

/-! ### The open episode -/

/-- The open episode's header and records, in its FILLING slot (R95). -/
def State.openEpisode (s : State) : Option Episode :=
  match s.ctrl.current with
  | none => none
  | some o =>
    match s.store.slot o.slot with
    | .filling e => some e
    | .free => none
    | .complete _ => none

/-- Changes the open episode in its slot. -/
def State.mapEpisode (s : State) (f : Episode → Episode) : State :=
  match s.ctrl.current with
  | none => s
  | some o =>
    match s.store.slot o.slot with
    | .filling e => s.setStore (s.store.setSlot o.slot (.filling (f e)))
    | .free => s
    | .complete _ => s

/-- Changes the header of the open episode. -/
def State.mapHeader (s : State) (f : Header → Header) : State :=
  s.mapEpisode (fun e => { e with header := f e.header })

/-- Changes what the controller holds for the open episode. -/
def State.mapCurrent (s : State) (f : OpenEpisode → OpenEpisode) : State :=
  s.setCtrl { s.ctrl with current := s.ctrl.current.map f }

/-! ### Withdrawal and close -/

/-- Withdraws the listed TRIGGER; an attempt of it in progress runs on, unreported (R64). -/
def Link.withdraw (l : Link) : Link :=
  { l with
    list := { l.list with trigger := false }
    attempt := match l.attempt with
      | some ⟨.trigger m, _⟩ => some ⟨.trigger m, true⟩
      | some ⟨.command m, w⟩ => some ⟨.command m, w⟩
      | some ⟨.beacon m, w⟩ => some ⟨.beacon m, w⟩
      | none => none }

/-- Withdraws the TRIGGER of the open episode (R64). -/
def State.withdrawTrigger (s : State) : State :=
  s.setLink s.link.withdraw

/-- Steps 1 to 8 of the close of the open episode (R114); with no episode open nothing happens. The
examination of the held trigger register at step 8 is the caller's. -/
def closeCurrent (e : EndStatus) (s : State) : State :=
  match s.ctrl.current with
  | none => s
  | some o =>
    let s1 := s.setStore (s.store.complete o.slot e)
    let s2 := (s1.setCtrl { s1.ctrl with current := none }).withdrawTrigger
    match e with
    | .cutByRestart => s2
    | .full | .timed | .cutByNext | .cutByHost | .truncated => s2.raise .closed

/-! ### Writing records -/

/-- The hand-over of a record to the open slot (R24, R138): with no free entry the episode closes TRUNCATED;
otherwise the record is appended, and at a post count of Q the episode closes FULL. Own BUSY is evaluated after
an append (R119). -/
def handOver (r : Record) (s : State) : State :=
  match s.ctrl.current with
  | none => s
  | some o =>
    match s.store.slot o.slot with
    | .free => s
    | .complete _ => s
    | .filling e =>
      if s.store.freeEntries = 0 then closeCurrent .truncated s
      else
        let st := s.store.setSlot o.slot (.filling (e.append r))
        let s1 := s.setStore { st with freeEntries := st.freeEntries - 1 }
        if s.config.items.postCount ≤ e.header.postCount + 1 then updateBusy (closeCurrent .full s1)
        else updateBusy s1

/-- Writes one record: into the ring, then to the open slot (R18). -/
def writeOne (s : State) (b : RecordBody) : State :=
  handOver (stamp b s) (s.setRing (s.ring.put (stamp b s)))

/-- Writes records one after the other (R21). -/
def writeAll (bs : List RecordBody) (s : State) : State :=
  bs.foldl writeOne s

/-! ### Opening -/

/-- What the rule of an opening gives it (R98, R99, R102, R108). -/
structure Opening where
  role : Role
  number : Option Word32
  originator : Option Address
  originTime : Option Time
  causes : List CauseEntry
  overflow : Bool
  claim : Claim
  floor : Option Word32
  cause : CauseCode
  flag : AnchorFlag

/-- The snapshot of R13: one pair for each channel of the mask, in increasing channel order. -/
def snapshotOf (m : Mask) (bank : Vector Word32 16) : List (Fin 16 × Word32) :=
  ((List.finRange 16).filter (inMask m)).map (fun n => (n, bank[n]))

/-- The episode that an opening puts into its slot: steps 1 to 4 of R101 as far as the slot holds them. -/
def openedEpisode (o : Opening) (i : Fin 8) (s : State) : Episode :=
  let items := s.config.items
  let inRing := s.ring.records.length
  let left := s.store.freeEntries - 1
  let n := preRecordCount items.preCount inRing left
  let anchor := stamp (.anchor o.cause o.flag) s
  { header :=
      { slot := i, number := o.number, role := o.role, originator := o.originator
        anchorTime := anchor.time, originTime := o.originTime, causes := o.causes
        preCount := n, postCount := 0, snapshot := snapshotOf items.snapshotMask s.counters
        endStatus := none
        flags := { gapBefore := s.ctrl.gapMark, timeStepped := false, causesOverflow := o.overflow
                   truncatedPre := preTruncated items.preCount inRing left } }
    records := s.ring.newest n ++ [anchor] }

/-- Steps 1 to 5 of an opening in the slot `i` (R101): slot, pre-records, anchor, counters, timer. Step 6 is the
caller's: OPEN rises, or stays high (R107). Own BUSY is evaluated once, at the end (R119). -/
def openIn (o : Opening) (i : Fin 8) (s : State) : State :=
  let e := openedEpisode o i s
  let st := s.store.setSlot i (.filling e)
  let s1 := s.setStore { st with freeEntries := st.freeEntries - e.records.length, order := st.order ++ [i] }
  let s2 := s1.setRing (s1.ring.put (stamp (.anchor o.cause o.flag) s1))
  let s3 := s2.setCtrl { s2.ctrl with
    gapMark := false
    current := some { slot := i, claim := o.claim, floor := o.floor, timer := s2.now } }
  updateBusy (clearCounters s3.config.items.resetMask s3)

/-- An opening in the lowest-indexed FREE slot (R137). The caller has tested that there is one, and a free
record entry; without them nothing opens. -/
def openLowest (o : Opening) (s : State) : State :=
  match s.store.lowestFree with
  | none => s
  | some i => if s.store.freeEntries = 0 then s else openIn o i s

/-! ### Suppression and origination -/

/-- Writes one SUPPRESSED record for each cause, in order, and sets the SUPPRESSED attention flag (R97, R124 to
R126). -/
def suppressAll (flag : SuppressedFlag) (causes : List OwnCause) (s : State) : State :=
  match causes with
  | [] => s
  | _ :: _ => (writeAll (causes.map (fun c => .suppressed c flag)) s).raise .suppressed

/-- The opening of an ORIGINATOR of number `n` (R98, R102). -/
def originatorOpening (n : Word32) (own : Address) (first : OwnCause × Time) (more : List (OwnCause × Time))
    (overflow : Bool) : Opening :=
  { role := .originator, number := some n, originator := some own, originTime := none
    causes := (first :: more).map (fun c => .own c.1 c.2), overflow := overflow
    claim := .unannounced, floor := none, cause := .own first.1, flag := .origin }

/-- Origination (R98): the tests, the claim, the opening, and the TRIGGER listed after it. -/
def originate (first : OwnCause × Time) (more : List (OwnCause × Time)) (overflow : Bool) (s : State) :
    State × Decision :=
  if s.ctrl.highest = Word32.limit then
    (suppressAll .numbersExhausted ((first :: more).map Prod.fst) s, .suppressed .numbersExhausted)
  else
    match s.store.lowestFree with
    | none => (suppressAll .noSlot ((first :: more).map Prod.fst) s, .suppressed .noSlot)
    | some i =>
      if s.store.freeEntries = 0 then
        (suppressAll .noSlot ((first :: more).map Prod.fst) s, .suppressed .noSlot)
      else
        let n := s.ctrl.highest + 1#32
        let s1 := s.setCtrl { s.ctrl with highest := n }
        let s2 := (openIn (originatorOpening n s1.station.address first more overflow) i s1).riseOpen
        (s2.setLink { s2.link with list := { s2.link.list with trigger := true } }, .opened i (some n))

/-! ### The held trigger register -/

/-- The examination of the held trigger register, and its release where R124 gives it. -/
def examineRegister (s : State) : State :=
  match s.ctrl.register with
  | none => s
  | some h =>
    if s.station.mode = .active ∧ s.ctrl.current = none ∧ s.ctrl.groupBusy = false then
      let s1 := s.setCtrl { s.ctrl with register := none }
      match h.causes with
      | [] => s1
      | c :: cs => (originate c cs h.overflow s1).1
    else s

/-- Examines the register where a handling that took the station from `before` to `after` closed the open
episode or took group busy from true to false (R114 step 8, R121, R124). -/
def examineAfter (before after : State) : State :=
  if (before.ctrl.current.isSome && after.ctrl.current.isNone)
      || (before.ctrl.groupBusy && !after.ctrl.groupBusy) then examineRegister after
  else after

/-- Writes the records of one block's event, and then examines the register if that closed the episode. No
record comes between them (R21, log 10). -/
def write (bs : List RecordBody) (s : State) : State :=
  examineAfter s (writeAll bs s)

/-- Suppresses causes, and then examines the register if that closed the episode. -/
def suppress (flag : SuppressedFlag) (causes : List OwnCause) (s : State) : State :=
  examineAfter s (suppressAll flag causes s)

/-- Closes the open episode and examines the register (R114). -/
def closeEpisode (e : EndStatus) (s : State) : State :=
  examineAfter s (closeCurrent e s)

/-- Re-evaluates group busy, and examines the register if it falls (R121). -/
def evaluateGroupBusy (s : State) : State :=
  examineAfter s (s.setCtrl { s.ctrl with groupBusy := s.ctrl.ownBusy || s.peersBusy })

/-- Evaluates own BUSY with all that its change brings (R119 to R121). -/
def evaluateBusy (s : State) : State :=
  examineAfter s (updateBusy s)

/-- A request that meets the register with group busy true (R122, R123). -/
def holdRequest (c : OwnCause) (t : Time) (s : State) : State × Decision :=
  if s.config.items.holdLimit = 0 then (suppress .noSlot [c] s, .suppressed .noSlot)
  else
    match s.ctrl.register with
    | none =>
      (s.setCtrl { s.ctrl with register := some { causes := [(c, t)], since := s.now, overflow := false } }, .held)
    | some h =>
      if h.causes.length < 4 then
        (s.setCtrl { s.ctrl with register := some { h with causes := h.causes ++ [(c, t)] } }, .merged)
      else (s.setCtrl { s.ctrl with register := some { h with overflow := true } }, .notMerged)

/-! ### Trigger requests (R97) -/

/-- Adds a cause to a header, or sets CAUSES-OVERFLOW when it holds four (R100). -/
def Header.addCause (h : Header) (c : CauseEntry) : Header :=
  if h.causes.length < 4 then { h with causes := h.causes ++ [c] }
  else { h with flags := { h.flags with causesOverflow := true } }

/-- Whether a header holds its four causes (R100). -/
def Header.causesFull (h : Header) : Bool :=
  decide (4 ≤ h.causes.length)

/-- The opening of a LOCAL episode (R99): its floor is the highest number plus 1, absent at the greatest. -/
def localOpening (highest : Word32) (c : OwnCause) (t : Time) : Opening :=
  { role := .localRole, number := none, originator := none, originTime := none
    causes := [.own c t], overflow := false, claim := .unannounced
    floor := if highest = Word32.limit then none else some (highest + 1#32)
    cause := .own c, flag := .localOpening }

/-- A request in MUTE with no episode open (R99). -/
def openLocal (c : OwnCause) (t : Time) (s : State) : State × Decision :=
  match s.store.lowestFree with
  | none => (suppress .noSlot [c] s, .suppressed .noSlot)
  | some i =>
    if s.store.freeEntries = 0 then (suppress .noSlot [c] s, .suppressed .noSlot)
    else ((openIn (localOpening s.ctrl.highest c t) i s).riseOpen, .opened i none)

/-- A request that finds no hold and no open episode: cases 3, 4 and 5 of R97. -/
def requestNoEpisode (c : OwnCause) (t : Time) (s : State) : State × Decision :=
  if s.station.mode.isMute then openLocal c t s
  else if s.ctrl.groupBusy then holdRequest c t s
  else originate (c, t) [] false s

/-- A hold is set: the local hold or the group hold (section 7.4). -/
def State.held (s : State) : Bool :=
  s.ctrl.localHold || s.ctrl.groupHold

/-- A trigger request at the episode controller (R97), in the first case that matches. Requests reach it in
ACTIVE and MUTE only; in CONFIG and ROLLCALL there is none to take (log 28). -/
def request (c : OwnCause) (t : Time) (s : State) : State × Option Decision :=
  if s.station.mode = .config ∨ s.station.mode = .rollCall then (s, none)
  else if s.held then (suppress .hold [c] s, some (.suppressed .hold))
  else
    match s.ctrl.current, s.openEpisode with
    | some o, some e =>
      (s.mapHeader (fun h => h.addCause (.own c t)),
        some (if e.header.causesFull then .notAdded o.slot else .added o.slot))
    | _, _ => ((requestNoEpisode c t s).1, some (requestNoEpisode c t s).2)

end Sys2Proof.Machine
end

