-- ==== Sys2Proof/Machine/Messages.lean ====
section
/-! DEFINITION. What the episode controller does with received TRIGGERs, beacon numbers, holds and the entry to MUTE (sections 6.5 to 6.7, 7.4). -/

namespace Sys2Proof.Machine

/-! ### Received TRIGGERs -/

/-- The cases of R104. `notCaptured` is case 1, and every TRIGGER taken in ROLLCALL (R109). -/
inductive TriggerCase where
  | notCaptured
  | join
  | renumber
  | cut
  | stale
  | follow
  | late
  deriving DecidableEq, Repr

/-- The case of R104 that a TRIGGER carrying `x` meets, or that of R109 in ROLLCALL. -/
def triggerCase (x : Word32) (s : State) : TriggerCase :=
  if s.station.mode = .rollCall then .notCaptured
  else if s.held then .notCaptured
  else
    match s.ctrl.current, s.openEpisode with
    | some o, some e =>
      match e.header.number with
      | some n =>
        if n = x then .join
        else if n < x then (if o.claim = .unannounced then .renumber else .cut)
        else .stale
      | none =>
        match o.floor with
        | some f => if o.claim = .unannounced ∧ f ≤ x then .renumber else .stale
        | none => .stale
    | _, _ => if s.ctrl.highest < x then .follow else .late

/-- The REMOTE cause of a TRIGGER (R102). -/
def remoteEntry (m : TriggerMessage) : CauseEntry :=
  .remote m.sender m.cause m.originTime

/-- The header of an episode that a peer's TRIGGER defines: CO-TRIGGERED, with the sender as originator (R105,
R106). -/
def Header.coTrigger (h : Header) (m : TriggerMessage) : Header :=
  { h with role := .coTriggered, originator := some m.sender, originTime := some m.originTime }

/-- The open episode joins the announcement of its number (R105). -/
def joinEpisode (m : TriggerMessage) (s : State) : State :=
  let s1 := s.mapHeader (fun h => h.addCause (remoteEntry m))
  match s.ctrl.current with
  | none => s1
  | some o =>
    match o.claim with
    | .unannounced =>
      ((s1.withdrawTrigger).mapHeader (fun h => h.coTrigger m)).mapCurrent (fun o => { o with claim := .learned })
    | .announced =>
      s1.mapHeader (fun h => if h.role = .originator then { h with role := .coTriggered } else h)
    | .learned => s1

/-- The unannounced open episode takes the number of a TRIGGER (R106). -/
def renumberByTrigger (m : TriggerMessage) (s : State) : State :=
  let s1 := s.mapHeader (fun h => (({ h with number := some m.number }).coTrigger m).addCause (remoteEntry m))
  (s1.withdrawTrigger).mapCurrent (fun o => { o with floor := none, claim := .learned })

/-- The episode actions of a case: step 2 of R103. -/
def triggerActions (c : TriggerCase) (m : TriggerMessage) (s : State) : State :=
  match c with
  | .join => joinEpisode m s
  | .renumber => renumberByTrigger m s
  | .cut => closeCurrent .cutByNext s
  | .notCaptured => s
  | .stale => s
  | .follow => s
  | .late => s

/-- The flag of the REMOTE-TRIGGER record (R104, R107, R108); `room` is whether a FOLLOWER can open. -/
def remoteFlag (c : TriggerCase) (room : Bool) : Option RemoteFlag :=
  match c with
  | .notCaptured => some .notCaptured
  | .join => none
  | .renumber => none
  | .stale => some .stale
  | .late => some .late
  | .cut => if room then none else some .notCaptured
  | .follow => if room then none else some .notCaptured

/-- Whether a case opens a FOLLOWER (R107, R108). -/
def TriggerCase.follows : TriggerCase → Bool
  | .cut => true
  | .follow => true
  | .notCaptured => false
  | .join => false
  | .renumber => false
  | .stale => false
  | .late => false

/-- The greatest count a GAP record carries (R94). -/
def gapLimit : Nat := 4294967294

/-- The GAP record of a count of numbers skipped, and the gap mark; a count of 0 writes nothing (R94). The
record's append is complete after it, and the examination it may call for is the caller's. -/
def writeGap (count : Nat) (s : State) : State :=
  if count = 0 then s
  else writeOne (s.setCtrl { s.ctrl with gapMark := true }) (.gap (BitVec.ofNat 32 (min count gapLimit)))

/-- Raises the highest episode number to `x` where `x` is greater (R93). -/
def raiseHighest (x : Word32) (s : State) : State :=
  if s.ctrl.highest < x then s.setCtrl { s.ctrl with highest := x } else s

/-- The opening of a FOLLOWER (R102, R108): the REMOTE cause, then the register's causes, four in all. -/
def followerOpening (m : TriggerMessage) (register : Option HeldTrigger) : Opening :=
  let held := match register with
    | none => []
    | some h => h.causes.map (fun c => CauseEntry.own c.1 c.2)
  let overflow := match register with
    | none => false
    | some h => h.overflow
  { role := .follower, number := some m.number, originator := some m.sender
    originTime := some m.originTime, causes := ((remoteEntry m) :: held).take 4
    overflow := overflow || decide (4 < ((remoteEntry m) :: held).length)
    claim := .learned, floor := none, cause := .remote, flag := .follow }

/-- A FOLLOWER opens and takes the causes of the register, which becomes EMPTY (R108, R127). -/
def openFollower (m : TriggerMessage) (s : State) : State :=
  openLowest (followerOpening m s.ctrl.register) (s.setCtrl { s.ctrl with register := none })

/-- Step 6 of R103 for a case that opens a FOLLOWER: OPEN rises with it, but for the case that cut the last episode in
this handling, where it stays high (R107, R172). -/
def followTrigger (c : TriggerCase) (m : TriggerMessage) (s : State) : State :=
  if c = .cut then openFollower m s else (openFollower m s).riseOpen

/-- The handling of a TRIGGER at the episode controller, steps 2 to 6 of R103, for a case already chosen. -/
def handleTrigger (c : TriggerCase) (m : TriggerMessage) (s : State) : State :=
  let s1 := triggerActions c m s
  let room := s1.store.hasRoom
  let skipped := m.number.toNat - s1.ctrl.highest.toNat - 1
  let s2 := writeGap skipped (raiseHighest m.number s1)
  let s3 := writeOne s2 (.remoteTrigger m.sender m.number (remoteFlag c room))
  if c.follows && room then followTrigger c m s3 else s3

/-- A TRIGGER at the episode controller (R103, R104, R109). A close within the handling has the register
examined once the handling is complete (R114). -/
def controllerTrigger (m : TriggerMessage) (s : State) : State :=
  examineAfter s (handleTrigger (triggerCase m.number s) m s)

/-! ### Beacon numbers (R110) -/

/-- The renumbering or raising that a beacon's highest number `h` calls for (R110). R110 renumbers a claim that `h` has
reached, and says besides that an `h` at most the highest number changes nothing. Where both hold, as for a claim passed
under a hold (R109), that the claim is renumbered is the model's reading (log 34). -/
def renumberByBeacon (h : Word32) (s : State) : State :=
  match s.ctrl.current, s.openEpisode with
  | some o, some e =>
    match e.header.number with
    | some n =>
      if o.claim = .unannounced ∧ n ≤ h then
        if h = Word32.limit then
          (((raiseHighest h s).withdrawTrigger).mapHeader
              (fun x => { x with number := none, role := .localRole, originator := none })).mapCurrent
            (fun o => { o with floor := some n })
        else
          (raiseHighest (h + 1#32) s).mapHeader (fun x => { x with number := some (h + 1#32) })
      else raiseHighest h s
    | none => raiseHighest h s
  | _, _ => raiseHighest h s

/-- A beacon's highest number at the episode controller (R92, R110), with the GAP record of R94. -/
def beaconNumber (h : Word32) (s : State) : State :=
  examineAfter s (writeGap (h.toNat - s.ctrl.highest.toNat) (renumberByBeacon h s))

/-! ### Holds (section 7.4) -/

/-- Discards the register: one SUPPRESSED HOLD record for each cause (R126). -/
def discardRegister (s : State) : State :=
  match s.ctrl.register with
  | none => s
  | some h => suppress .hold (h.causes.map Prod.fst) (s.setCtrl { s.ctrl with register := none })

/-- What a change of hold does (R131), after the hold has its new value. -/
def holdChanged (nowSet : Bool) (s : State) : State :=
  let s1 := if nowSet then discardRegister s else s
  (s1.raise .hold).requestBeacon

/-- Sets or clears the local hold (R129). -/
def setLocalHold (v : Bool) (s : State) : State :=
  if s.ctrl.localHold = v then s
  else holdChanged v (s.setCtrl { s.ctrl with localHold := v })

/-- Sets or clears the group hold (R130). -/
def setGroupHold (v : Bool) (s : State) : State :=
  if s.ctrl.groupHold = v then s
  else holdChanged v (s.setCtrl { s.ctrl with groupHold := v })

/-- The roll-call hold mark is handed on at the end of roll call, and discarded (R82). -/
def handOnHoldMark (s : State) : State :=
  let s1 := s.setPeers { s.peers with holdMark := false }
  if s.peers.holdMark then setGroupHold true s1 else s1

/-! ### The fate of a claim (section 6.7) -/

/-- The station's TRIGGER has been sent successfully (R111). -/
def announceClaim (s : State) : State :=
  match s.ctrl.current with
  | none => s
  | some o =>
    if o.claim = .unannounced then
      (s.mapHeader (fun h =>
          { h with originator := some s.station.address, originTime := some h.anchorTime })).mapCurrent
        (fun o => { o with claim := .announced })
    else s

/-- The controller takes the entry to MUTE: a pending claim becomes LOCAL (R112). -/
def claimOvertakenByMute (s : State) : State :=
  match s.ctrl.current, s.openEpisode with
  | some o, some e =>
    match e.header.number with
    | some n =>
      if o.claim = .unannounced then
        (s.mapHeader (fun h => { h with number := none, role := .localRole, originator := none })).mapCurrent
          (fun o => { o with floor := some n })
      else s
    | none => s
  | _, _ => s

end Sys2Proof.Machine
end

