-- ==== Sys2Proof/Machine/Units.lean ====
section
/-! DEFINITION. The trigger units: arming, conditions, combinators, counting and firing (Chapter 3). -/

namespace Sys2Proof.Machine

/-! ### Conditions (section 3.3) -/

/-- A LINE condition's edge takes this direction (R35). -/
def EdgeSelect.takes : EdgeSelect → Dir → Bool
  | .rise, .rise => true
  | .rise, .fall => false
  | .fall, .rise => false
  | .fall, .fall => true
  | .either, _ => true

/-- The compare of a counter value with a limit (R36). -/
def Compare.holds : Compare → Word32 → Word32 → Bool
  | .eq, v, l => v == l
  | .ne, v, l => v != l
  | .lt, v, l => decide (v < l)
  | .gt, v, l => decide (l < v)

/-- The new value of counter c that an offer carries, if it carries one (R34). -/
def Offer.newValue (o : Offer) (c : Fin 16) : Option Word32 :=
  match o with
  | .edge n _ v => if n = c then v else none
  | .cleared changed => if c ∈ changed then some 0#32 else none
  | .trigger _ => none

/-- Whether a condition that holds the compare result `held` occurs in an offer (R35, R36, R38, R39). -/
def Condition.occurs (c : Condition) (held : Option Bool) (o : Offer) : Bool :=
  match c, o with
  | .empty, _ => false
  | .line n e, .edge m d _ => decide (n = m) && e.takes d
  | .line _ _, .cleared _ => false
  | .line _ _, .trigger _ => false
  | .counter c k l, o =>
    match o.newValue c with
    | none => false
    | some v => held == some false && k.holds v l
  | .remote s, .trigger t => s == 0#5 || s == t
  | .remote _, .edge _ _ _ => false
  | .remote _, .cleared _ => false

/-- The compare result held after an offer (R36). -/
def Condition.heldAfter (c : Condition) (held : Option Bool) (o : Offer) : Option Bool :=
  match c with
  | .empty => held
  | .line _ _ => held
  | .remote _ => held
  | .counter c k l =>
    match o.newValue c with
    | none => held
    | some v => some (k.holds v l)

/-- The compare result at arming (R31, R37). -/
def Condition.heldAtArming (c : Condition) (counters : Vector Word32 16) : Option Bool :=
  match c with
  | .empty => none
  | .line _ _ => none
  | .remote _ => none
  | .counter c k l => some (k.holds counters[c] l)

/-! ### Arming and disarming (section 3.2) -/

/-- A unit as arming sets it up (R31). -/
def armUnit (u : UnitSettings) (counters : Vector Word32 16) : TriggerUnit :=
  if u.enable then
    .armed { phase := .waitA, remaining := u.count, lastA := none, lastB := none
             compareA := u.condA.heldAtArming counters, compareB := u.condB.heldAtArming counters }
  else .disabled

/-- Arms the trigger units (R31). -/
def armUnits (s : State) : State :=
  s.setUnits (vecOf 4 (fun k => armUnit s.config.items.units[k] s.counters))

/-- Disarms the trigger units (R32). -/
def disarmUnits (s : State) : State :=
  s.setUnits disarmedUnits

/-! ### Combinators (section 3.4) -/

/-- A remembered time lies at most W before `now` (R41). -/
def withinWindow (now w : Nat) (last : Option Nat) : Bool :=
  match last with
  | none => false
  | some t => decide (now - t ≤ w)

/-- BOTH (R41): the unit after an offer in which A or B occurs, and whether it is a satisfaction. -/
def combineBoth (now w : Nat) (a b : Bool) (u : ArmedUnit) : ArmedUnit × Bool :=
  match a, b with
  | true, true => ({ u with lastA := none, lastB := none }, true)
  | true, false =>
    if withinWindow now w u.lastB then ({ u with lastA := none, lastB := none }, true)
    else ({ u with lastA := some now }, false)
  | false, true =>
    if withinWindow now w u.lastA then ({ u with lastA := none, lastB := none }, true)
    else ({ u with lastB := some now }, false)
  | false, false => (u, false)

/-- SEQUENCE (R42). -/
def combineSequence (now : Nat) (a b : Bool) (u : ArmedUnit) : ArmedUnit × Bool :=
  match u.phase with
  | .waitA => if a then ({ u with phase := .waitB now }, false) else (u, false)
  | .waitB _ =>
    if b then ({ u with phase := .waitA }, true)
    else if a then ({ u with phase := .waitB now }, false)
    else (u, false)

/-- A-UNLESS-B (R43): its satisfaction falls at expiry, so no offer satisfies. -/
def combineUnless (now : Nat) (a b : Bool) (u : ArmedUnit) : ArmedUnit × Bool :=
  match u.phase with
  | .waitA => if a then ({ u with phase := .waitB now }, false) else (u, false)
  | .waitB _ => if b then ({ u with phase := .waitA }, false) else (u, false)

/-- The combinator on the occurrences of one offer (R40 to R43). -/
def combine (c : Combinator) (now w : Nat) (a b : Bool) (u : ArmedUnit) : ArmedUnit × Bool :=
  match c with
  | .any => (u, a || b)
  | .both => combineBoth now w a b u
  | .sequence => combineSequence now a b u
  | .aUnlessB => combineUnless now a b u

/-! ### Counting and firing (section 3.5) -/

/-- Counts a satisfaction (R45): the unit after it, with its count reloaded if it fires, and whether it fires. -/
def ArmedUnit.count (u : ArmedUnit) (n : Nat) : ArmedUnit × Bool :=
  if u.remaining ≤ 1 then ({ u with remaining := n }, true)
  else ({ u with remaining := u.remaining - 1 }, false)

/-- Sets what unit k holds. -/
def State.setUnit (s : State) (k : Fin 4) (u : TriggerUnit) : State :=
  s.setUnits (s.units.set k u)

/-- A firing (R46): the FIRE record, then the request, which carries the time of that record. -/
def fire (k : Fin 4) (s : State) : State :=
  let s1 := write [.fire k s.config.items.units[k].count] s
  (request (.unit k) s.time.group s1).1

/-- Unit k takes the outcome of its combinator: it counts a satisfaction, and fires at 0 (R45, R46). The reload
of step 3 of R46 is made first; nothing in the firing reads it. -/
def settleUnit (k : Fin 4) (r : ArmedUnit × Bool) (s : State) : State :=
  if r.2 then
    let c := r.1.count s.config.items.units[k].count
    let s1 := s.setUnit k (.armed c.1)
    if c.2 then fire k s1 else s1
  else s.setUnit k (.armed r.1)

/-- An armed unit on an offer: its compare results, its combinator, and whether it is satisfied. -/
def ArmedUnit.take (set : UnitSettings) (now : Nat) (o : Offer) (u : ArmedUnit) : ArmedUnit × Bool :=
  let a := set.condA.occurs u.compareA o
  let b := set.condB.occurs u.compareB o
  let u1 := { u with compareA := set.condA.heldAfter u.compareA o
                     compareB := set.condB.heldAfter u.compareB o }
  combine set.combinator now set.window a b u1

/-- Unit k takes an offer whole (R34); a disarmed unit takes none. -/
def unitTakes (o : Offer) (s : State) (k : Fin 4) : State :=
  match s.units[k] with
  | .disabled => s
  | .armed u => settleUnit k (u.take s.config.items.units[k] s.now o) s

/-- The unit is armed (section 3.2.1). -/
def TriggerUnit.isArmed : TriggerUnit → Bool
  | .disabled => false
  | .armed _ => true

/-- The armed units, in index order. -/
def State.armedUnits (s : State) : List (Fin 4) :=
  (List.finRange 4).filter (fun k => s.units[k].isArmed)

/-- Units take an offer one after another in this order (R49). -/
def takeOfferIn (order : List (Fin 4)) (o : Offer) (s : State) : State :=
  order.foldl (unitTakes o) s

/-- Every armed unit takes the offer, in a free order (R49, log 3). -/
def takeOffer (o : Offer) (s : State) : State :=
  let armed := s.armedUnits
  takeOfferIn (freeOrder s.choice armed) o (s.setChoice (s.choice + choicesFor armed.length))

/-- The offers brought are taken one after the other, oldest first, at most `n` of them. -/
def takeOffers : Nat → State → State
  | 0, s => s
  | n + 1, s =>
    match s.offers with
    | [] => s
    | o :: rest => takeOffers n (takeOffer o (s.setOffers rest))

/-- The units take every offer that an event has brought (R34, R48). Taking them can bring at most one more, the
clear of the first opening among them, since a second opening finds the counters of its mask at 0 (R48). -/
def settle (s : State) : State :=
  takeOffers (s.offers.length + 1) s

/-- The expiry of the window of an armed unit in WAIT-B: no satisfaction under SEQUENCE (R42), one under
A-UNLESS-B (R43). -/
def expireWindow (k : Fin 4) (u : ArmedUnit) (s : State) : State :=
  let u1 := { u with phase := .waitA }
  match s.config.items.units[k].combinator with
  | .aUnlessB => settleUnit k (u1, true) s
  | .sequence | .any | .both => settleUnit k (u1, false) s

end Sys2Proof.Machine
end

