-- ==== Sys2Proof/Machine/Lines.lean ====
section
/-! DEFINITION. Event lines, counters and VETO: what the pins and the line timers do (Chapter 1), and the window timers of the trigger units. -/

namespace Sys2Proof.Machine

/-- The direction of an edge toward a level (R1). -/
def Level.dir : Level → Dir
  | .high => .rise
  | .low => .fall

/-- The record setting lets this direction be recorded (R3). -/
def RecordSetting.records : RecordSetting → Dir → Bool
  | .never, _ => false
  | .rise, .rise => true
  | .rise, .fall => false
  | .fall, .rise => false
  | .fall, .fall => true
  | .both, _ => true

/-- A qualified edge of line n is vetoed now (R8). -/
def State.vetoed (s : State) (n : Fin 16) : Bool :=
  inMask s.config.items.vetoMask n && s.lines.veto.level == .high

/-- An edge of line n in this direction is a counting edge (R3, R10). -/
def State.countsEdge (s : State) (n : Fin 16) (d : Dir) : Bool :=
  s.config.items.countingEdge[n] == d

/-- Counter n after an edge (step 1 of R3, R10). -/
def State.counterAfter (s : State) (n : Fin 16) (d : Dir) : Word32 :=
  if s.countsEdge n d then s.counters[n] + 1#32 else s.counters[n]

/-- The records of an edge (step 2 of R3): EDGE where the record setting has it, and WRAP directly after it
where the counter wrapped (R10). -/
def edgeRecords (n : Fin 16) (d : Dir) (s : State) : List RecordBody :=
  (if s.config.items.recordSetting[n].records d then [.edge n (s.counterAfter n d) d] else [])
    ++ (if s.countsEdge n d && s.counters[n] == Word32.limit then [.wrap n] else [])

/-- A qualified edge that is not vetoed: counting, recording, occurrences (R3). Its offer is brought at the
counting and taken after the recording, so that the offers carry a counter's changes in their order (log 11). -/
def handleEdge (n : Fin 16) (d : Dir) (s : State) : State :=
  let s1 := s.setCounters (s.counters.set n (s.counterAfter n d))
  let s2 := s1.bring (.edge n d (if s.countsEdge n d then some (s.counterAfter n d) else none))
  write (edgeRecords n d s) s2

/-- The qualified level of line n takes `l`, and the edge is handled unless it is vetoed (R1, R3, R8). -/
def qualifyLine (n : Fin 16) (l : Level) (s : State) : State :=
  let s1 := s.setLine n { s.line n with pin := l, level := l, phase := .steady }
  if s.vetoed n then s1 else handleEdge n (Level.dir l) s1

/-- The pin of a line moves to `l` while the station takes events (R1, R2). -/
def moveLine (n : Fin 16) (l : Level) (s : State) : State :=
  let x := s.line n
  match x.phase with
  | .steady =>
    if l = x.level then s.setLine n { x with pin := l }
    else if s.config.items.qualTime[n] = 0 then qualifyLine n l s
    else s.setLine n { x with pin := l, phase := .pending s.now s.config.items.qualTime[n] }
  | .pending _ _ =>
    if l = x.level then s.setLine n { x with pin := l, phase := .steady }
    else s.setLine n { x with pin := l }

/-- LINE_PIN_CHANGE (R1, R2, R5). A station that is held or without supply takes no event; its pin moves. -/
def execLinePinChange (n : Fin 16) (l : Level) (s : State) : Host.Outcome State Fault Refusal :=
  if l = (s.line n).pin then .next s
  else if s.running then .next (settle (moveLine n l s))
  else .next (s.setLine n { s.line n with pin := l })

/-- A PENDING input's timer has reached the time in force (R1). -/
def LineInput.due (x : LineInput) (now : Nat) : Bool :=
  match x.phase with
  | .steady => false
  | .pending since inForce => reached now since inForce

/-- QUALIFICATION_TIMER_EXPIRY (R1, R3). An expiry that is not due does not occur (log 2). -/
def execQualificationTimerExpiry (n : Fin 16) (s : State) : Host.Outcome State Fault Refusal :=
  if s.running && (s.line n).due s.now then .next (settle (qualifyLine n (s.line n).pin s)) else .next s

/-- The record of a change of VETO's qualified level (R6). -/
def vetoRecord : Level → RecordBody
  | .high => .vetoOn
  | .low => .vetoOff

/-- The qualified level of VETO takes `l` (R6). -/
def qualifyVeto (l : Level) (s : State) : State :=
  write [vetoRecord l] (s.setVeto { pin := l, level := l, phase := .steady })

/-- The fixed qualification time of VETO (R6). -/
def vetoTime : Nat := 10

/-- The VETO pin moves to `l` while the station takes events (R6). -/
def moveVeto (l : Level) (s : State) : State :=
  let x := s.lines.veto
  match x.phase with
  | .steady =>
    if l = x.level then s.setVeto { x with pin := l }
    else s.setVeto { x with pin := l, phase := .pending s.now vetoTime }
  | .pending _ _ =>
    if l = x.level then s.setVeto { x with pin := l, phase := .steady }
    else s.setVeto { x with pin := l }

/-- VETO_PIN_CHANGE (R6). -/
def execVetoPinChange (l : Level) (s : State) : Host.Outcome State Fault Refusal :=
  if l = s.lines.veto.pin then .next s
  else if s.running then .next (moveVeto l s)
  else .next (s.setVeto { s.lines.veto with pin := l })

/-- VETO_QUALIFICATION_EXPIRY (R6). -/
def execVetoQualificationExpiry (s : State) : Host.Outcome State Fault Refusal :=
  if s.running && s.lines.veto.due s.now then .next (settle (qualifyVeto s.lines.veto.pin s)) else .next s

/-- An armed unit's window timer has reached W (R42, R43). -/
def ArmedUnit.windowDue (u : ArmedUnit) (now w : Nat) : Bool :=
  match u.phase with
  | .waitA => false
  | .waitB since => reached now since w

/-- Unit k's window timer has reached W. -/
def State.windowDue (s : State) (k : Fin 4) : Bool :=
  match s.units[k] with
  | .disabled => false
  | .armed u => u.windowDue s.now s.config.items.units[k].window

/-- WINDOW_EXPIRY (R42, R43). -/
def execWindowExpiry (k : Fin 4) (s : State) : Host.Outcome State Fault Refusal :=
  if s.running && s.windowDue k then
    match s.units[k] with
    | .disabled => .next s
    | .armed u => .next (settle (expireWindow k u s))
  else .next s

end Sys2Proof.Machine
end

