-- ==== Sys2Proof/Machine/Frame.lean ====
section
/-! DEFINITION. The bits of a group line message: codes, check, fill bits, the judging of a bit read back, and what the bits on the line give the station (R52, R54 to R58, R66 to R69, R173, R174). -/

namespace Sys2Proof.Machine

/-- The bits of a number, most significant first; `true` is a recessive 1 (R50, R54). -/
def bitsOf {w : Nat} (x : BitVec w) : List Bool :=
  (List.range w).map (fun i => x.getLsbD (w - 1 - i))

/-- The number that these bits spell, most significant first. -/
def numberOf (bs : List Bool) : Nat :=
  bs.foldl (fun acc b => 2 * acc + b.toNat) 0

/-! ### Codes (R173) -/

/-- The code of a cause of a TRIGGER. -/
def causeCode : OwnCause → Byte
  | .unit k => BitVec.ofNat 8 k.val
  | .software => 4#8

/-- The cause of a code; 5 and more are in no valid TRIGGER. -/
def causeOfCode (c : Byte) : Option OwnCause :=
  if h : c.toNat < 4 then some (.unit ⟨c.toNat, h⟩)
  else if c.toNat = 4 then some .software
  else none

/-- The code of a group command. -/
def GroupCommand.code : GroupCommand → Byte
  | .clearCounters => 1#8
  | .hold => 2#8
  | .resume => 3#8

/-- The group command of a code. -/
def commandOfCode (c : Byte) : Option GroupCommand :=
  if c = 1#8 then some .clearCounters
  else if c = 2#8 then some .hold
  else if c = 3#8 then some .resume
  else none

/-- The code of a restart cause. -/
def restartCode : RestartCause → BitVec 2
  | .power => 1#2
  | .hard => 2#2
  | .soft => 3#2

/-- The restart cause of a code. -/
def restartCauseOfCode (c : BitVec 2) : Option RestartCause :=
  if c = 1#2 then some .power
  else if c = 2#2 then some .hard
  else if c = 3#2 then some .soft
  else none

/-! ### Arbitration field, payload and check -/

/-- The class of a message (R54). -/
def Message.class : Message → BitVec 2
  | .trigger _ => 0#2
  | .command _ => 1#2
  | .beacon _ => 2#2

/-- The sender address of a message. -/
def Message.sender : Message → Address
  | .trigger m => m.sender
  | .command m => m.sender
  | .beacon m => m.sender

/-- The arbitration field as one number: class times 32 plus sender address (R57). -/
def Message.arbitration (m : Message) : Nat :=
  m.class.toNat * 32 + m.sender.toNat

/-- The flag bits of a BEACON, from most to least significant (R173). -/
def beaconFlagBits (m : BeaconMessage) : List Bool :=
  [m.busy, m.groupHold, m.localHold, m.rollCall.isSome, false, false] ++
    match m.rollCall with
    | none => [false, false]
    | some c => bitsOf (restartCode c)

/-- The payload bits of a message (R55, section 11.1). -/
def Message.payload : Message → List Bool
  | .trigger m => bitsOf m.number ++ bitsOf m.originTime ++ bitsOf (causeCode m.cause)
  | .command m => bitsOf m.command.code ++ bitsOf m.argument
  | .beacon m => bitsOf m.time ++ bitsOf m.highest ++ bitsOf m.interval ++ beaconFlagBits m

/-- The string the check is formed over: arbitration field and payload (R56). -/
def Message.checked (m : Message) : List Bool :=
  bitsOf m.class ++ bitsOf m.sender ++ m.payload

/-- One step of the check register (R174). -/
def checkStep (r : BitVec 16) (b : Bool) : BitVec 16 :=
  if b ^^ r.msb then (r <<< 1) ^^^ 0x1021#16 else r <<< 1

/-- The check of a bit string (R56, R174). -/
def checkOf (bs : List Bool) : BitVec 16 :=
  bs.foldl checkStep (BitVec.allOnes 16)

/-- The filled part without its fill bits: start bit, arbitration field, payload, check (R52, R54). -/
def Message.filledPart (m : Message) : List Bool :=
  false :: (m.checked ++ bitsOf (checkOf m.checked))

/-! ### Fill bits (R52) -/

/-- A run of equal bits in the filled part: its level and its length; none before the first bit. -/
structure Run where
  level : Bool
  length : Nat
  deriving DecidableEq, Repr

/-- The run after one more bit. -/
def Run.push (r : Run) (b : Bool) : Run :=
  if r.length = 0 ∨ r.level ≠ b then { level := b, length := 1 } else { level := b, length := r.length + 1 }

/-- The run before the first bit. -/
def Run.start : Run := { level := false, length := 0 }

/-- Inserts a fill bit of the opposite level after every run of four equal bits; the fill bit is the first bit of
the next run (R52). -/
def insertFill (r : Run) : List Bool → List Bool
  | [] => []
  | b :: bs =>
    let r1 := r.push b
    if r1.length = 4 then b :: (!b) :: insertFill { level := !b, length := 1 } bs
    else b :: insertFill r1 bs

/-- The eight recessive end bits (R54). -/
def endBits : List Bool := List.replicate 8 true

/-- The bits a message has on the line (R52, R54). -/
def Message.frame (m : Message) : List Bool :=
  insertFill Run.start m.filledPart ++ endBits

/-! ### Receiving bits -/

/-- What reading a number of filled bits gives: the bits and what follows, a fill violation, or too few bits. -/
inductive FilledRead where
  | bits (data : List Bool) (run : Run) (rest : List Bool)
  | violation
  | incomplete
  deriving DecidableEq, Repr

/-- Reads one fill bit where the run has four equal bits (R52). -/
def readFill (r : Run) (raw : List Bool) : FilledRead :=
  if r.length < 4 then .bits [] r raw
  else
    match raw with
    | [] => .incomplete
    | f :: rest => if f = r.level then .violation else .bits [] { level := f, length := 1 } rest

/-- Reads `n` bits of the filled part from the line, removing the fill bits between them (R52, R66). -/
def readFilled : Nat → Run → List Bool → FilledRead
  | 0, r, raw => .bits [] r raw
  | n + 1, r, raw =>
    match readFill r raw with
    | .violation => .violation
    | .incomplete => .incomplete
    | .bits _ _ [] => .incomplete
    | .bits _ r1 (b :: rest) =>
      match readFilled n (r1.push b) rest with
      | .violation => .violation
      | .incomplete => .incomplete
      | .bits data r2 rest2 => .bits (b :: data) r2 rest2

/-- The payload length of a class (R54); class 3 is no message class. -/
def payloadLength (c : Nat) : Option Nat :=
  match c with
  | 0 => some 88
  | 1 => some 24
  | 2 => some 96
  | _ => none

/-- What the assembly makes of the bits of one message (R66 to R68). -/
inductive Verdict where
  | abandoned
  | invalid
  | valid (m : Message)
  | incomplete
  deriving DecidableEq, Repr

/-- The bits `start` to `start + n − 1` as a bit vector. -/
def fieldOf (bs : List Bool) (start w : Nat) : BitVec w :=
  BitVec.ofNat w (numberOf ((bs.drop start).take w))

/-- The BEACON of these bits, if its fields are valid (R68, R173). -/
def beaconOf (bs : List Bool) : Option BeaconMessage :=
  let flags : BitVec 8 := fieldOf bs 95 8
  let base : BeaconMessage :=
    { sender := fieldOf bs 2 5, time := fieldOf bs 7 48, highest := fieldOf bs 55 32
      interval := fieldOf bs 87 8, busy := flags.getLsbD 7, groupHold := flags.getLsbD 6
      localHold := flags.getLsbD 5, rollCall := none }
  if base.interval = 0#8 then none
  else if flags.getLsbD 4 then
    (restartCauseOfCode (flags.setWidth 2)).map (fun c => { base with rollCall := some c })
  else some base

/-- The TRIGGER of these bits, if its fields are valid (R68, R173). -/
def triggerOf (bs : List Bool) : Option TriggerMessage :=
  if fieldOf bs 7 32 = 0#32 then none
  else
    (causeOfCode (fieldOf bs 87 8)).map (fun c =>
      { sender := fieldOf bs 2 5, number := fieldOf bs 7 32, originTime := fieldOf bs 39 48, cause := c })

/-- The GROUP COMMAND of these bits, if its fields are valid; the argument of HOLD and RESUME is disregarded
(R68, R173). -/
def groupCommandOf (bs : List Bool) : Option CommandMessage :=
  (commandOfCode (fieldOf bs 7 8)).map (fun c =>
    { sender := fieldOf bs 2 5, command := c
      argument := if c = .clearCounters then fieldOf bs 15 16 else 0#16 })

/-- The message whose arbitration field and payload these are, if its fields are valid (R68). -/
def messageOf (bs : List Bool) : Option Message :=
  if fieldOf bs 2 5 = (0#5 : Address) then none
  else
    match numberOf (bs.take 2) with
    | 0 => (triggerOf bs).map .trigger
    | 1 => (groupCommandOf bs).map .command
    | 2 => (beaconOf bs).map .beacon
    | _ => none

/-- The judgement at the eighth end bit (R68). -/
def judge (body check : List Bool) : Verdict :=
  if numberOf check = (checkOf body).toNat then
    match messageOf body with
    | some m => .valid m
    | none => .invalid
  else .invalid

/-- The end bits: a dominant one abandons the message (R67). -/
def readEnd (n : Nat) (verdict : Verdict) (raw : List Bool) : Verdict :=
  if (raw.take n).any (fun b => !b) then .abandoned
  else if raw.length < n then .incomplete
  else verdict

/-- What the assembly makes of the bits on the line, from a start bit on (R66 to R68). R67 leaves open at which bit a
message of class 3 is abandoned; that it is the last bit of the arbitration field is the model's choice (log 30). -/
def receive (raw : List Bool) : Verdict :=
  match readFilled 8 Run.start raw with
  | .violation => .abandoned
  | .incomplete => .incomplete
  | .bits head r1 rest1 =>
    match payloadLength (numberOf ((head.drop 1).take 2)) with
    | none => .abandoned
    | some n =>
      match readFilled (n + 16) r1 rest1 with
      | .violation => .abandoned
      | .incomplete => .incomplete
      | .bits tail r2 rest2 =>
        match readFill r2 rest2 with
        | .violation => .abandoned
        | .incomplete => .incomplete
        | .bits _ _ rest3 => readEnd 8 (judge (head.drop 1 ++ tail.take n) (tail.drop n)) rest3

/-- The command that a verdict brings a station of this address (R67 to R70). A message that bears the station's
own address is OWN_ADDRESS_MESSAGE; this is not asked of the station's own successful attempt (R69). -/
def Verdict.event (own : Address) : Verdict → Option Instr
  | .incomplete => none
  | .abandoned => some .messageAbandon
  | .invalid => some .messageInvalid
  | .valid m =>
    if own ≠ 0#5 ∧ m.sender = own then some .ownAddressMessage
    else
      match m with
      | .trigger t => some (.triggerReceived t)
      | .beacon b => some (.beaconReceived b)
      | .command c =>
        match c.command with
        | .clearCounters => some (.clearCountersReceived c.sender c.argument)
        | .hold => some (.holdReceived c.sender)
        | .resume => some (.resumeReceived c.sender)

/-! ### The bit that the station reads back (R57, R58) -/

/-- What reading back a bit means to the sender. -/
inductive ReadBack where
  | agrees
  | lostArbitration
  | foreign
  | lineFault
  deriving DecidableEq, Repr

/-- The comparison of a bit sent with the bit read (R57, R58). -/
def readBack (inArbitration sent read : Bool) : ReadBack :=
  match sent, read with
  | true, true => .agrees
  | false, false => .agrees
  | false, true => .lineFault
  | true, false => if inArbitration then .lostArbitration else .foreign

/-! ### Following the line bit by bit (R66, R67) -/

/-- The receive assembly bit by bit: its state, the recessive bits counted toward a free line, and the bits of the message
being assembled, from its start bit on; none once it has been judged. -/
structure LineReader where
  rx : RxState
  recessive : Nat
  raw : List Bool
  deriving DecidableEq, Repr

/-- What a bit can bring the assembly: a free line, a start bit, or the end of a message by this verdict. -/
inductive LineEvent where
  | free
  | started
  | ended (v : Verdict)
  deriving DecidableEq, Repr

/-- The count of consecutive recessive bits that makes the line free (R53). -/
def freeLineCount : Nat := 11

/-- One more bit toward a free line: a dominant bit sets the count back to 0, and at 11 the assembly is IDLE (R66). -/
def LineReader.count (r : LineReader) (b : Bool) : LineReader × List LineEvent :=
  let n := if b then r.recessive + 1 else 0
  if freeLineCount ≤ n then ({ rx := .idle, recessive := n, raw := [] }, [.free]) else ({ r with recessive := n }, [])

/-- One more bit of the message being assembled. Abandoned, it is discarded, and recessive bits are counted from the bit
that has it abandoned, that bit included (R67). Judged, the count goes on through its end bits, and may be full at the
eighth (R53, R66). -/
def LineReader.assemble (r : LineReader) (b : Bool) : LineReader × List LineEvent :=
  match receive (r.raw ++ [b]) with
  | .abandoned => ({ rx := .waitFree, recessive := b.toNat, raw := [] }, [.ended .abandoned])
  | .incomplete => ({ r with recessive := if b then r.recessive + 1 else 0, raw := r.raw ++ [b] }, [])
  | .invalid =>
    let n := LineReader.count { r with raw := [] } b
    (n.1, .ended .invalid :: n.2)
  | .valid m =>
    let n := LineReader.count { r with raw := [] } b
    (n.1, .ended (.valid m) :: n.2)

/-- One bit read on the line (R66, R67). -/
def LineReader.read (r : LineReader) (b : Bool) : LineReader × List LineEvent :=
  match r.rx with
  | .off => (r, [])
  | .waitFree => r.count b
  | .idle => if b then (r, []) else ({ rx := .receiving, recessive := 0, raw := [false] }, [.started])
  | .receiving => if r.raw.isEmpty then r.count b else r.assemble b

/-- The bits read one after the other, and all that they bring. -/
def LineReader.readAll (r : LineReader) : List Bool → LineReader × List LineEvent
  | [] => (r, [])
  | b :: bs =>
    let one := r.read b
    let rest := one.1.readAll bs
    (rest.1, one.2 ++ rest.2)

/-- The command that an event on the line brings a station of this address that is not sending; its own start bit is
ATTEMPT_START (R53, R66 to R70). -/
def LineEvent.command (own : Address) : LineEvent → Option Instr
  | .free => some .lineFree
  | .started => some .startBitReceived
  | .ended v => v.event own

/-- The level on the line when stations drive these levels: dominant (0) overrides recessive (R50). -/
def lineLevel (driven : List Bool) : Bool :=
  driven.all (fun b => b)

/-- The duration of one bit in µs (R51). -/
def BitRate.bitTime : BitRate → Nat
  | .kbit125 => 8
  | .kbit250 => 4
  | .kbit500 => 2
  | .kbit1000 => 1

end Sys2Proof.Machine
end

