-- ==== Sys2Proof/Machine/Peers.lean ====
section
/-! DEFINITION. Peer monitor, time base and station states: peers heard and lost, beacons, roll call, MUTE, REJOIN, and the timers of these and of episodes (Chapter 5, R115, R125). -/

namespace Sys2Proof.Machine

/-! ### Entry to ROLLCALL and MUTE (sections 5.3 and 5.4) -/

/-- Entry to ROLLCALL (R79): units disarmed, roll-call timer from 0, hold mark clear, beacon timer stopped,
beacon requested. -/
def enterRollCall (s : State) : State :=
  let s1 := disarmUnits (s.setMode .rollCall)
  (s1.setPeers { s1.peers with beaconTimer := none, rollCallTimer := some s1.now, holdMark := false }).requestBeacon

/-- The transceiver at entry to MUTE: the list is empty and no attempt is made (R65). -/
def Link.silence (l : Link) : Link :=
  { l with list := emptyList, attempt := none }

/-- The peer monitor at entry to MUTE: beacon timer and roll-call timer stop (R78, R84). -/
def PeerMonitor.silence (p : PeerMonitor) : PeerMonitor :=
  { p with beaconTimer := none, rollCallTimer := none }

/-- Entry to MUTE (R84). Coming from ROLLCALL, the hold mark is handed on; coming from ACTIVE, the units keep
their state (R33). A station already MUTE does not enter it again. -/
def enterMute (r : MuteReason) (s : State) : State :=
  let before := s.station.mode
  let s1 := (s.setMode (.mute r)).raise .muted
  let s2 := (s1.setLink s1.link.silence).setPeers s1.peers.silence
  let s3 := if before = .rollCall then handOnHoldMark s2 else s2
  let s4 := if before = .active then s3 else armUnits s3
  claimOvertakenByMute s4

/-! ### A peer is heard (section 5.1.2) -/

/-- A valid message of peer `a` (R73). Where the append of its PEER-BACK closes the episode, the register is examined
here, before the message goes to its owner: the model's choice for a TRIGGER, whose handling of R103 begins after the
peer monitor has taken the sender's presence (R114, log 31). -/
def hearPeer (a : Address) (s : State) : State :=
  let e := s.peer a
  let s1 := s.setPeer a { e with state := .present, lastHeard := some s.now }
  match e.state with
  | .absent => s1
  | .present => s1
  | .lost => write [.peerBack a] s1

/-- What a BEACON sets in its sender's entry (R74). -/
def PeerEntry.beacon (e : PeerEntry) (m : BeaconMessage) : PeerEntry :=
  { e with interval := some m.interval, highest := some m.highest, busy := m.busy
           groupHold := m.groupHold, localHold := m.localHold, rollCallMark := m.rollCall.isSome }

/-- A BEACON of an entry that stood at `before` when the message was taken (R74). -/
def noteBeacon (before : PeerEntry) (m : BeaconMessage) (s : State) : State :=
  let s1 := s.setPeer m.sender ((s.peer m.sender).beacon m)
  match m.rollCall with
  | none => s1
  | some c => if before.state = .absent ∨ before.rollCallMark then s1 else write [.peerRestart m.sender c] s1

/-! ### Steps of group time (section 5.5.2) -/

/-- Group time after the step that a beacon's time `t` calls for against the latch `l` (R89). -/
def steppedTime (g l t : Time) : Time :=
  if l.toNat + 2 < t.toNat then BitVec.ofNat 48 (min (g.toNat + (t.toNat - l.toNat)) Time.limit.toNat) else g

/-- The increase that a step makes; less than 3 µs is no step (R89). -/
def stepSize (g l t : Time) : Nat :=
  (steppedTime g l t).toNat - g.toNat

/-- A beacon's time at the time base (R89, R90): the step, the TIME-STEPPED flag of an open episode, and the
TIME-STEP record. -/
def stepTime (sender : Address) (l t : Time) (s : State) : State :=
  let g := s.time.group
  if stepSize g l t < 3 then s
  else
    let g' := steppedTime g l t
    let s1 := s.setTime { s.time with group := g', stopped := s.time.stopped || g' == Time.limit }
    let s2 := s1.mapHeader (fun h => { h with flags := { h.flags with timeStepped := true } })
    write [.timeStep sender (BitVec.ofNat 48 (stepSize g l t))] s2

/-! ### A BEACON as one event -/

/-- In ROLLCALL, a beacon with GROUP-HOLD sets the hold mark (R82). -/
def markHold (m : BeaconMessage) (s : State) : State :=
  if s.station.mode = .rollCall ∧ m.groupHold then s.setPeers { s.peers with holdMark := true } else s

/-- A valid BEACON, in the order of R77. -/
def handleBeacon (m : BeaconMessage) (l : Time) (s : State) : State :=
  let before := s.peer m.sender
  let s1 := noteBeacon before m (hearPeer m.sender s)
  let s2 := stepTime m.sender l m.time s1
  let s3 := beaconNumber m.highest s2
  let s4 := evaluateGroupBusy s3
  markHold m s4

/-! ### Silence (section 5.1.3) -/

/-- The silence limit of an entry in µs (R75). -/
def PeerEntry.silenceLimit (e : PeerEntry) : Nat :=
  match e.interval with
  | none => ms 1020
  | some i => ms (4 * i.toNat)

/-- The silence timer of an entry has reached its limit (R75). -/
def PeerEntry.silent (e : PeerEntry) (now : Nat) : Bool :=
  match e.state, e.lastHeard with
  | .present, some t => reached now t e.silenceLimit
  | .present, none => false
  | .absent, _ => false
  | .lost, _ => false

/-- An entry that becomes LOST (R75). -/
def PeerEntry.lose (e : PeerEntry) : PeerEntry :=
  { e with state := .lost, busy := false, groupHold := false, localHold := false, rollCallMark := false }

/-- Peer `a` becomes LOST: the five steps of R75. -/
def losePeer (a : Address) (s : State) : State :=
  let s1 := write [.peerLost a] (s.setPeer a (s.peer a).lose)
  evaluateGroupBusy (s1.raise .peer)

/-- SILENCE_TIMER_EXPIRY (R75). -/
def execSilenceTimerExpiry (a : Address) (s : State) : Host.Outcome State Fault Refusal :=
  if s.running && (s.peer a).silent s.now then .next (settle (losePeer a s)) else .next s

/-! ### Beacon timer, roll call, group time -/

/-- A timer held as an optional start moment has reached its limit; a stopped one has not. -/
def timerDue (now : Nat) (t : Option Nat) (limit : Nat) : Bool :=
  match t with
  | none => false
  | some since => reached now since limit

/-- The beacon timer has reached I (R78). -/
def State.beaconDue (s : State) : Bool :=
  s.station.mode.transmits && timerDue s.now s.peers.beaconTimer (ms s.config.items.beaconInterval)

/-- BEACON_TIMER_EXPIRY (R78). -/
def execBeaconTimerExpiry (s : State) : Host.Outcome State Fault Refusal :=
  if s.running && s.beaconDue then .next ((s.setPeers { s.peers with beaconTimer := none }).requestBeacon) else .next s

/-- The roll-call timer has reached 2 × I (R83). -/
def State.rollCallDue (s : State) : Bool :=
  s.station.mode == .rollCall && timerDue s.now s.peers.rollCallTimer (ms (2 * s.config.items.beaconInterval))

/-- The end of roll call (R83): ACTIVE, the hold mark handed on, the units armed; then the held trigger register
is examined (R124, log 12). -/
def endRollCall (s : State) : State :=
  let s1 := s.setMode .active
  let s2 := handOnHoldMark (s1.setPeers { s1.peers with rollCallTimer := none })
  examineRegister (armUnits s2)

/-- ROLL_CALL_EXPIRY (R83). -/
def execRollCallExpiry (s : State) : Host.Outcome State Fault Refusal :=
  if s.running && s.rollCallDue then .next (settle (endRollCall s)) else .next s

/-- GROUP_TIME_LIMIT (R87): group time has reached its limit, and its count stops. It counts while RESET is held
low too. -/
def execGroupTimeLimit (s : State) : Host.Outcome State Fault Refusal :=
  if s.power.supply && s.time.group == Time.limit then .next (s.setTime { s.time with stopped := true }) else .next s

/-! ### Timers of the episode controller -/

/-- The post-time timer has reached the post-time limit (R115). -/
def State.postTimeDue (s : State) : Bool :=
  match s.ctrl.current with
  | none => false
  | some o => reached s.now o.timer (ms s.config.items.postTime)

/-- POST_TIME_EXPIRY (R115). -/
def execPostTimeExpiry (s : State) : Host.Outcome State Fault Refusal :=
  if s.running && s.postTimeDue then .next (settle (closeEpisode .timed s)) else .next s

/-- The hold-limit timer has reached the hold limit (R125). -/
def State.holdLimitDue (s : State) : Bool :=
  match s.ctrl.register with
  | none => false
  | some h => reached s.now h.since (ms s.config.items.holdLimit)

/-- The register's trigger expires: one SUPPRESSED EXPIRED record for each cause (R125). -/
def expireRegister (s : State) : State :=
  match s.ctrl.register with
  | none => s
  | some h => suppress .expired (h.causes.map Prod.fst) (s.setCtrl { s.ctrl with register := none })

/-- HOLD_LIMIT_EXPIRY (R125). -/
def execHoldLimitExpiry (s : State) : Host.Outcome State Fault Refusal :=
  if s.running && s.holdLimitDue then .next (settle (expireRegister s)) else .next s

end Sys2Proof.Machine
end

