-- ==== Sys2Proof/Machine/GroupLine.lean ====
section
/-! DEFINITION. The group line transceiver: attempts, and the reception and dispatch of messages (Chapter 4). -/

namespace Sys2Proof.Machine

/-! ### Receive assembly -/

/-- A message is being assembled: its start bit has been taken and it has not been judged (R66, log 8). -/
def Link.assembling (l : Link) : Bool :=
  l.rx == .receiving && l.latch.isSome

/-- A message of another station can come to its end now: the station takes events, the assembly is in a
message, and no attempt of the station is in progress (R57, R66). -/
def State.hears (s : State) : Bool :=
  s.running && s.link.assembling && s.link.attempt.isNone

/-- The message has been judged or discarded; RECEIVING lasts until the line is free (R66, log 9). -/
def Link.judged (l : Link) : Link :=
  { l with latch := none }

/-- A start bit on the line: RECEIVING, with the group time latched (R66). -/
def Link.startBit (l : Link) (g : Time) : Link :=
  { l with rx := .receiving, latch := some g }

/-- The station waits for the line to be free: after a message, after an abandoned one, or since following began,
and with no attempt of its own on the line (R53, R66). -/
def Link.awaitsFree (l : Link) : Bool :=
  l.attempt.isNone && (l.rx == .waitFree || (l.rx == .receiving && l.latch.isNone))

/-- LINE_FREE (R53, R66). -/
def execLineFree (s : State) : Host.Outcome State Fault Refusal :=
  if s.running && s.link.awaitsFree then
    .next (s.setLink { s.link with rx := .idle })
  else .next s

/-- START_BIT_RECEIVED (R53, R66): the station does not start on this free line. -/
def execStartBitReceived (s : State) : Host.Outcome State Fault Refusal :=
  if s.running && s.link.rx == .idle then .next (s.setLink (s.link.startBit s.time.group)) else .next s

/-- MESSAGE_ABANDON (R67). -/
def execMessageAbandon (s : State) : Host.Outcome State Fault Refusal :=
  if s.running && s.link.assembling then .next (s.setLink { s.link with rx := .waitFree, latch := none })
  else .next s

/-- MESSAGE_INVALID (R68): discarded without record, count or report. -/
def execMessageInvalid (s : State) : Host.Outcome State Fault Refusal :=
  if s.hears then .next (s.setLink s.link.judged) else .next s

/-! ### Attempts (sections 4.3 and 4.4) -/

/-- The entry at the head of the transmit list (R59). -/
inductive Entry where
  | trigger
  | command (c : GroupCommand) (argument : Mask)
  | beacon
  deriving DecidableEq, Repr

/-- The head of the transmit list: TRIGGER, then GROUP COMMANDs oldest first, then BEACON (R59). -/
def TransmitList.head (l : TransmitList) : Option Entry :=
  if l.trigger then some .trigger
  else
    match l.commands with
    | c :: _ => some (.command c.1 c.2)
    | [] =>
      match l.beacon with
      | .absent => none
      | .listed => some .beacon
      | .again => some .beacon

/-- The cause code of an episode's ANCHOR record, at the position of its pre count (R139). -/
def Episode.anchorCause (e : Episode) : Option CauseCode :=
  match (e.records[e.header.preCount]?).map Record.body with
  | some (.anchor c _) => some c
  | _ => none

/-- The BEACON formed now (R61). -/
def formBeacon (s : State) : BeaconMessage :=
  { sender := s.station.address, time := s.time.group, highest := s.ctrl.highest
    interval := BitVec.ofNat 8 s.config.items.beaconInterval
    busy := s.ctrl.ownBusy, groupHold := s.ctrl.groupHold, localHold := s.ctrl.localHold
    rollCall := if s.station.mode = .rollCall then some s.peers.restartCause else none }

/-- The TRIGGER formed now from the open episode: its number, its anchor time, and the cause of its ANCHOR
record (R61). -/
def formTrigger (s : State) : Option TriggerMessage :=
  match s.openEpisode with
  | none => none
  | some e =>
    match e.header.number, e.anchorCause with
    | some n, some (.own c) =>
      some { sender := s.station.address, number := n, originTime := e.header.anchorTime, cause := c }
    | _, _ => none

/-- The message formed at a start bit for an entry (R61). -/
def formMessage (s : State) : Entry → Option Message
  | .trigger => (formTrigger s).map .trigger
  | .command c a => some (.command { sender := s.station.address, command := c, argument := a })
  | .beacon => some (.beacon (formBeacon s))

/-- The message that an attempt started now would carry: the station may send, the line is free, and the list
has a head (R53, R60, R61). -/
def State.attemptNow (s : State) : Option Message :=
  if s.running && s.station.mode.transmits && s.link.rx == .idle && s.link.attempt.isNone then
    match s.link.list.head with
    | none => none
    | some e => formMessage s e
  else none

/-- ATTEMPT_START (R53, R61): the payload is formed, and the own start bit is taken like any other (R66). -/
def execAttemptStart (s : State) : Host.Outcome State Fault Refusal :=
  match s.attemptNow with
  | none => .next s
  | some m => .next (s.setLink { s.link.startBit s.time.group with attempt := some ⟨m, false⟩ })

/-- The level at GTX in the k-th bit of an attempt, counted from its start bit: the bit of the message as formed,
and recessive whenever no attempt is in progress (R50). -/
def State.gtx (s : State) (k : Nat) : Bool :=
  match s.link.attempt with
  | none => true
  | some a => if s.running then (a.message.frame[k]?).getD true else true

/-- The list after a lost or failed attempt: a mark to send the BEACON again is cleared (R60). -/
def Link.unmark (l : Link) : Link :=
  if l.sendsBeacon then
    { l with list := { l.list with beacon := match l.list.beacon with
        | .absent => .absent
        | .listed => .listed
        | .again => .listed } }
  else l

/-- ARBITRATION_LOSS (R57): the entry stays, and the station receives the message. -/
def execArbitrationLoss (s : State) : Host.Outcome State Fault Refusal :=
  if s.running && s.link.attempt.isSome then .next (s.setLink { s.link.unmark with attempt := none }) else .next s

/-- The transceiver at the bit that ends an attempt in error (R58). A start bit read recessive leaves the
assembly in IDLE, since no dominant bit was read (section 4.8). -/
def Link.breakOff (l : Link) (e : BitError) : Link :=
  let l1 := { l.unmark with attempt := none }
  match e with
  | .startBit => { l1 with rx := .idle, latch := none }
  | .lineFault => l1
  | .foreign => l1

/-- The failure count that brings MUTE (R65). -/
def failureLimit : Nat := 16

/-- A failed attempt (R63): the count rises by 1, and at 16 the station becomes MUTE with LINE-FAULT (R65). -/
def failAttempt (s : State) : State :=
  let s1 := s.setLink { s.link with failures := s.link.failures + 1 }
  if failureLimit ≤ s1.link.failures then enterMute .lineFault s1 else s1

/-- ATTEMPT_FAILURE (R58, R63): a foreign bit in ROLLCALL is an address conflict and does not change the count
(R81); every other error is a failed attempt. -/
def execAttemptFailure (e : BitError) (s : State) : Host.Outcome State Fault Refusal :=
  if s.running && s.link.attempt.isSome then
    let s1 := s.setLink (s.link.breakOff e)
    if e = .foreign ∧ s.station.mode = .rollCall then .next (settle (enterMute .conflict s1))
    else .next (settle (failAttempt s1))
  else .next s

/-- A received or sent RESUME (R130); in ROLLCALL it clears the hold mark too (R82). -/
def applyResume (s : State) : State :=
  let s1 := if s.station.mode = .rollCall then s.setPeers { s.peers with holdMark := false } else s
  setGroupHold false s1

/-- A group command at its owner (R12, R70, R130). -/
def applyCommand (c : GroupCommand) (argument : Mask) (s : State) : State :=
  match c with
  | .clearCounters => clearCounters argument s
  | .hold => setGroupHold true s
  | .resume => applyResume s

/-- The list after a successful attempt of this message (step 2 of R62). -/
def TransmitList.sent (l : TransmitList) (m : Message) (withdrawn : Bool) : TransmitList :=
  match m with
  | .trigger _ => if withdrawn then l else { l with trigger := false }
  | .command _ => { l with commands := l.commands.tail }
  | .beacon _ =>
    { l with beacon := match l.beacon with
        | .absent => .absent
        | .listed => .absent
        | .again => .listed }

/-- The report of a success to the entry's owner (step 3 of R62). -/
def reportSuccess (a : Attempt) (s : State) : State :=
  match a.message with
  | .trigger _ => if a.withdrawn then s else announceClaim s
  | .command m => applyCommand m.command m.argument s
  | .beacon _ => s.setPeers { s.peers with beaconTimer := some s.now }

/-- ATTEMPT_SUCCESS (R62): the count is 0, the entry leaves the list, and its owner is told. The own message is
not dispatched (R69). -/
def execAttemptSuccess (s : State) : Host.Outcome State Fault Refusal :=
  match s.link.attempt with
  | none => .next s
  | some a =>
    if s.running then
      let l := s.link.judged
      let s1 := s.setLink { l with failures := 0, attempt := none, list := l.list.sent a.message a.withdrawn }
      .next (settle (reportSuccess a s1))
    else .next s

/-! ### Dispatch (sections 4.5.3 and 4.5.4) -/

/-- A valid message of the station's own address that is not its own attempt (R69): a conflict in ROLLCALL,
discarded in ACTIVE and MUTE. -/
def takeOwnAddress (s : State) : State :=
  if s.station.mode = .rollCall then enterMute .conflict s else s

/-- OWN_ADDRESS_MESSAGE (R69, R81). A station of address 0 has no own address. -/
def execOwnAddressMessage (s : State) : Host.Outcome State Fault Refusal :=
  if s.hears && s.station.address != 0#5 then .next (settle (takeOwnAddress (s.setLink s.link.judged)))
  else .next s

/-- A message that is valid but for what its operands say (R68 to R70): one whose fields are not valid is
discarded, one of the own address is taken by R69, and any other is dispatched, to the peer monitor first. -/
def dispatch (fieldsValid : Bool) (sender : Address) (owner : State → State) (s : State) :
    Host.Outcome State Fault Refusal :=
  if s.hears then
    let s1 := s.setLink s.link.judged
    if !fieldsValid || sender == 0#5 then .next s1
    else if sender = s.station.address then .next (settle (takeOwnAddress s1))
    else .next (settle (owner s1))
  else .next s

/-- TRIGGER_RECEIVED (R70, R103): peer monitor, episode controller, then the offer to the units (R34). -/
def execTriggerReceived (m : TriggerMessage) (s : State) : Host.Outcome State Fault Refusal :=
  dispatch (m.number != 0#32) m.sender
    (fun s1 => (controllerTrigger m (hearPeer m.sender s1)).bring (.trigger m.sender)) s

/-- BEACON_RECEIVED (R77), with the group time latched at its start bit (R88). -/
def execBeaconReceived (m : BeaconMessage) (s : State) : Host.Outcome State Fault Refusal :=
  dispatch (m.interval != 0#8) m.sender (handleBeacon m (s.link.latch.getD s.time.group)) s

/-- CLEAR_COUNTERS_RECEIVED (R12, R134). -/
def execClearCountersReceived (sender : Address) (mask : Mask) (s : State) : Host.Outcome State Fault Refusal :=
  dispatch true sender (fun s1 => applyCommand .clearCounters mask (hearPeer sender s1)) s

/-- HOLD_RECEIVED (R130, R134). -/
def execHoldReceived (sender : Address) (s : State) : Host.Outcome State Fault Refusal :=
  dispatch true sender (fun s1 => applyCommand .hold 0#16 (hearPeer sender s1)) s

/-- RESUME_RECEIVED (R130, R134). -/
def execResumeReceived (sender : Address) (s : State) : Host.Outcome State Fault Refusal :=
  dispatch true sender (fun s1 => applyCommand .resume 0#16 (hearPeer sender s1)) s

end Sys2Proof.Machine
end

