-- ==== Sys2Proof/Machine/Operands.lean ====
section
/-! DEFINITION. Configuration items: identifiers, ranges and value coding (R156, R160, R176), and the checks between items (R158). -/

namespace Sys2Proof.Machine

/-! ### Identifiers (R176) -/

/-- The line of an identifier's second byte. -/
def lineIndex (i : Byte) : Option (Fin 16) :=
  if h : i.toNat < 16 then some ⟨i.toNat, h⟩ else none

/-- The unit of an identifier's second byte. -/
def unitIndex (i : Byte) : Option (Fin 4) :=
  if h : i.toNat < 4 then some ⟨i.toNat, h⟩ else none

/-- A station item's second byte is 0. -/
def stationItem (i : Byte) (item : Item) : Option Item :=
  if i = 0#8 then some item else none

/-- The item that an identifier names, if it names one (R156, R176). -/
def itemOf (code index : Byte) : Option Item :=
  match code.toNat with
  | 1 => stationItem index .bitRate
  | 2 => stationItem index .beaconInterval
  | 3 => stationItem index .preCount
  | 4 => stationItem index .postCount
  | 5 => stationItem index .postTime
  | 6 => stationItem index .reserve
  | 7 => stationItem index .holdLimit
  | 8 => stationItem index .snapshotMask
  | 9 => stationItem index .resetMask
  | 10 => stationItem index .vetoMask
  | 11 => (lineIndex index).map .qualTime
  | 12 => (lineIndex index).map .recordSetting
  | 13 => (lineIndex index).map .countingEdge
  | 14 => (unitIndex index).map .enable
  | 15 => (unitIndex index).map .condA
  | 16 => (unitIndex index).map .condB
  | 17 => (unitIndex index).map .combinator
  | 18 => (unitIndex index).map .window
  | 19 => (unitIndex index).map .count
  | 20 => stationItem index .attentionMask
  | _ => none

/-- The item code (R176). -/
def Item.code : Item → Byte
  | .bitRate => 1#8
  | .beaconInterval => 2#8
  | .preCount => 3#8
  | .postCount => 4#8
  | .postTime => 5#8
  | .reserve => 6#8
  | .holdLimit => 7#8
  | .snapshotMask => 8#8
  | .resetMask => 9#8
  | .vetoMask => 10#8
  | .qualTime _ => 11#8
  | .recordSetting _ => 12#8
  | .countingEdge _ => 13#8
  | .enable _ => 14#8
  | .condA _ => 15#8
  | .condB _ => 16#8
  | .combinator _ => 17#8
  | .window _ => 18#8
  | .count _ => 19#8
  | .attentionMask => 20#8

/-- The second byte of an identifier: line, unit, or 0 (R176). -/
def Item.index : Item → Byte
  | .qualTime n | .recordSetting n | .countingEdge n => BitVec.ofNat 8 n.val
  | .enable k | .condA k | .condB k | .combinator k | .window k | .count k => BitVec.ofNat 8 k.val
  | .bitRate | .beaconInterval | .preCount | .postCount | .postTime | .reserve | .holdLimit
  | .snapshotMask | .resetMask | .vetoMask | .attentionMask => 0#8

/-! ### Values (R176) -/

/-- Bytes 0 to 3 of a value, as a number. -/
def valueNumber (v : BitVec 56) : Nat :=
  v.toNat / 2 ^ 24

/-- Byte i of a value. -/
def valueByte (v : BitVec 56) (i : Nat) : Nat :=
  v.toNat / 256 ^ (6 - i) % 256

/-- Bytes 3 to 6 of a condition: its limit. -/
def valueLimit (v : BitVec 56) : Word32 :=
  BitVec.ofNat 32 v.toNat

/-- A number in a range (section 9.2.2). -/
def inRange (lo hi n : Nat) : Option Nat :=
  if lo ≤ n ∧ n ≤ hi then some n else none

/-- A bit rate in kbit/s. -/
def bitRateOf : Nat → Option BitRate
  | 125 => some .kbit125
  | 250 => some .kbit250
  | 500 => some .kbit500
  | 1000 => some .kbit1000
  | _ => none

/-- A bit rate as a number of kbit/s. -/
def BitRate.kbit : BitRate → Nat
  | .kbit125 => 125
  | .kbit250 => 250
  | .kbit500 => 500
  | .kbit1000 => 1000

/-- A channel mask; bits beyond its channels are out of range (R176, log 16). -/
def maskOf (n : Nat) : Option Mask :=
  if n < 2 ^ 16 then some (BitVec.ofNat 16 n) else none

/-- An attention mask; bits beyond the six flags are out of range (R176, log 16). -/
def attentionMaskOf (n : Nat) : Option (BitVec 6) :=
  if n < 2 ^ 6 then some (BitVec.ofNat 6 n) else none

/-- A record setting. -/
def recordSettingOf : Nat → Option RecordSetting
  | 0 => some .never
  | 1 => some .rise
  | 2 => some .fall
  | 3 => some .both
  | _ => none

/-- The code of a record setting. -/
def RecordSetting.code : RecordSetting → Nat
  | .never => 0
  | .rise => 1
  | .fall => 2
  | .both => 3

/-- A counting edge. -/
def dirOf : Nat → Option Dir
  | 1 => some .rise
  | 2 => some .fall
  | _ => none

/-- The code of a counting edge. -/
def dirCode : Dir → Nat
  | .rise => 1
  | .fall => 2

/-- An enable: OFF 0 or ON 1. -/
def enableOf : Nat → Option Bool
  | 0 => some false
  | 1 => some true
  | _ => none

/-- A combinator. -/
def combinatorOf : Nat → Option Combinator
  | 0 => some .any
  | 1 => some .both
  | 2 => some .sequence
  | 3 => some .aUnlessB
  | _ => none

/-- The code of a combinator. -/
def Combinator.code : Combinator → Nat
  | .any => 0
  | .both => 1
  | .sequence => 2
  | .aUnlessB => 3

/-- The edge of a LINE condition. -/
def edgeSelectOf : Nat → Option EdgeSelect
  | 1 => some .rise
  | 2 => some .fall
  | 3 => some .either
  | _ => none

/-- The code of the edge of a LINE condition. -/
def EdgeSelect.code : EdgeSelect → Nat
  | .rise => 1
  | .fall => 2
  | .either => 3

/-- The compare of a COUNTER condition. -/
def compareOf : Nat → Option Compare
  | 1 => some .eq
  | 2 => some .ne
  | 3 => some .lt
  | 4 => some .gt
  | _ => none

/-- The code of a compare. -/
def Compare.code : Compare → Nat
  | .eq => 1
  | .ne => 2
  | .lt => 3
  | .gt => 4

/-- A condition, judged whole (R156): its kind and the parameters its kind carries. -/
def conditionOf (v : BitVec 56) : Option Condition :=
  let p := valueByte v 1
  let q := valueByte v 2
  match valueByte v 0 with
  | 0 => some .empty
  | 1 =>
    if h : p < 16 then (edgeSelectOf q).map (fun e => .line ⟨p, h⟩ e) else none
  | 2 =>
    if h : p < 16 then (compareOf q).map (fun k => .counter ⟨p, h⟩ k (valueLimit v)) else none
  | 3 => if p < 32 then some (.remote (BitVec.ofNat 5 p)) else none
  | _ => none

/-- Kind, parameter and choice bytes and a limit as the seven bytes of a condition. -/
def conditionBytes (kind p q limit : Nat) : BitVec 56 :=
  BitVec.ofNat 56 (kind * 2 ^ 48 + p * 2 ^ 40 + q * 2 ^ 32 + limit)

/-- The value bytes of a condition; bytes its kind does not use are 0 (R176). -/
def Condition.value : Condition → BitVec 56
  | .empty => conditionBytes 0 0 0 0
  | .line n e => conditionBytes 1 n.val e.code 0
  | .counter c k l => conditionBytes 2 c.val k.code l.toNat
  | .remote a => conditionBytes 3 a.toNat 0 0

/-! ### Reading and writing an item -/

/-- The settings of unit k changed by `f`. -/
def Settings.mapUnit (x : Settings) (k : Fin 4) (f : UnitSettings → UnitSettings) : Settings :=
  { x with units := x.units.set k (f x.units[k]) }

/-- The settings after a write of an item; none where the value is outside the item's range (R156). -/
def Settings.write (x : Settings) (i : Item) (v : BitVec 56) : Option Settings :=
  let n := valueNumber v
  match i with
  | .bitRate => (bitRateOf n).map (fun y => { x with bitRate := y })
  | .beaconInterval => (inRange 1 255 n).map (fun y => { x with beaconInterval := y })
  | .preCount => (inRange 0 255 n).map (fun y => { x with preCount := y })
  | .postCount => (inRange 1 512 n).map (fun y => { x with postCount := y })
  | .postTime => (inRange 1 65535 n).map (fun y => { x with postTime := y })
  | .reserve => (inRange 0 1023 n).map (fun y => { x with reserve := y })
  | .holdLimit => (inRange 0 65535 n).map (fun y => { x with holdLimit := y })
  | .snapshotMask => (maskOf n).map (fun y => { x with snapshotMask := y })
  | .resetMask => (maskOf n).map (fun y => { x with resetMask := y })
  | .vetoMask => (maskOf n).map (fun y => { x with vetoMask := y })
  | .qualTime j => (inRange 0 255 n).map (fun y => { x with qualTime := x.qualTime.set j y })
  | .recordSetting j => (recordSettingOf n).map (fun y => { x with recordSetting := x.recordSetting.set j y })
  | .countingEdge j => (dirOf n).map (fun y => { x with countingEdge := x.countingEdge.set j y })
  | .enable k => (enableOf n).map (fun y => x.mapUnit k (fun u => { u with enable := y }))
  | .condA k => (conditionOf v).map (fun y => x.mapUnit k (fun u => { u with condA := y }))
  | .condB k => (conditionOf v).map (fun y => x.mapUnit k (fun u => { u with condB := y }))
  | .combinator k => (combinatorOf n).map (fun y => x.mapUnit k (fun u => { u with combinator := y }))
  | .window k => (inRange 1 16777215 n).map (fun y => x.mapUnit k (fun u => { u with window := y }))
  | .count k => (inRange 1 256 n).map (fun y => x.mapUnit k (fun u => { u with count := y }))
  | .attentionMask => (attentionMaskOf n).map (fun y => { x with attentionMask := y })

/-- A number, mask or named value in bytes 0 to 3; bytes 4 to 6 are free (R176, log 15). -/
def numberValue (i : Item) (n : Nat) : BitVec 56 :=
  BitVec.ofNat 56 (n * 2 ^ 24 + (Config.disregardedBytes i.code.toNat i.index.toNat).toNat)

/-- The value in force for an item, in its seven bytes (R160, R176). -/
def Settings.read (x : Settings) (i : Item) : BitVec 56 :=
  match i with
  | .bitRate => numberValue i x.bitRate.kbit
  | .beaconInterval => numberValue i x.beaconInterval
  | .preCount => numberValue i x.preCount
  | .postCount => numberValue i x.postCount
  | .postTime => numberValue i x.postTime
  | .reserve => numberValue i x.reserve
  | .holdLimit => numberValue i x.holdLimit
  | .snapshotMask => numberValue i x.snapshotMask.toNat
  | .resetMask => numberValue i x.resetMask.toNat
  | .vetoMask => numberValue i x.vetoMask.toNat
  | .qualTime j => numberValue i x.qualTime[j]
  | .recordSetting j => numberValue i x.recordSetting[j].code
  | .countingEdge j => numberValue i (dirCode x.countingEdge[j])
  | .enable k => numberValue i x.units[k].enable.toNat
  | .condA k => x.units[k].condA.value
  | .condB k => x.units[k].condB.value
  | .combinator k => numberValue i x.units[k].combinator.code
  | .window k => numberValue i x.units[k].window
  | .count k => numberValue i x.units[k].count
  | .attentionMask => numberValue i x.attentionMask.toNat

/-! ### The checks of CLOSE CONFIG (R158) -/

/-- The item that a unit's checks (a) and (b) name, if one fails (R158). -/
def UnitSettings.failing (u : UnitSettings) (k : Fin 4) : Option Item :=
  if u.enable ∧ u.condA = .empty then some (.condA k)
  else if u.combinator ≠ .any ∧ u.condB = .empty then some (.condB k)
  else none

/-- The item that the first failing check names (R158). -/
def Settings.failing (x : Settings) : Option Item :=
  match (List.finRange 4).findSome? (fun k => x.units[k].failing k) with
  | some i => some i
  | none =>
    if 1024 < x.preCount + 1 + x.postCount then some .postCount
    else if x.reserve < 1024 - (x.preCount + 1) then none
    else some .reserve

end Sys2Proof.Machine
end

