-- ==== Sys2Proof/Machine/Restart.lean ====
section
/-! DEFINITION. Supply, RESET and the three restart kinds (section 9.1, and the restart rule of each chapter). -/

namespace Sys2Proof.Machine

/-- Own BUSY and group busy after a restart, from the counts kept and R (R119, R121). No peer is PRESENT. -/
def restartBusy (s : State) : State :=
  s.setCtrl { s.ctrl with ownBusy := s.busyByCounts, groupBusy := s.busyByCounts || s.peersBusy }

/-- What a HARD and a SOFT restart do alike, after the close (R16, R29, R32, R71, R72, R118, R128, R132, R149,
R162, R169). -/
def restartBlocks (cause : RestartCause) (sa : Address) (s : State) : State :=
  { s with
    station := { s.station with saPins := sa, address := sa }
    counters := clearedCounters
    ring := emptyRing
    units := disarmedUnits
    link := restartedLink
    peers := restartedPeers cause
    ctrl := { s.ctrl with current := none, localHold := false, groupHold := false, register := none }
    store := { s.store with selection := none }
    port := { s.port with response := noResponse, attention := s.port.attention ||| Attention.restarted.bit }
    offers := [] }

/-- The line inputs after a POWER or HARD restart (R5, R9). -/
def restartedLines (l : Lines) (now : Nat) : Lines :=
  { ev := vecOf 16 (fun n => restartedLine l.ev[n].pin), veto := restartedVeto l.veto.pin now }

/-- A HARD restart (R152). The close is taken before the ring is emptied (R118). -/
def hardRestart (sa : Address) (s : State) : State :=
  let s1 := restartBlocks .hard sa (closeCurrent .cutByRestart s)
  restartBusy
    { s1 with
      power := { s1.power with resetPin := .high }
      station := { s1.station with mode := .config }
      config := defaultConfiguration
      lines := restartedLines s1.lines s1.now }

/-- The record that a SOFT restart writes while VETO is qualified ACTIVE (R9). -/
def vetoOnAfterRestart (s : State) : State :=
  if s.lines.veto.level = .high then writeOne s .vetoOn else s

/-- The station state a SOFT restart or a successful CLOSE CONFIG enters, by the address (R79, R153, R159). -/
def enterByAddress (s : State) : State :=
  if s.station.address = 0#5 then enterMute .noAddress s else enterRollCall s

/-- A SOFT restart (R153). The station state it comes from hands nothing on (R82), so it is entered as from
CONFIG: the units are armed in MUTE (R31). -/
def softRestart (sa : Address) (s : State) : State :=
  let s1 := restartBlocks .soft sa (closeCurrent .cutByRestart s)
  let s2 := restartBusy
    { s1 with
      station := { s1.station with mode := .config }
      link := { s1.link with rx := .waitFree, rate := s.link.rate } }
  enterByAddress (vetoOnAfterRestart s2)

/-- The levels at the EV pins. -/
def Lines.pins (l : Lines) : Vector Level 16 :=
  vecOf 16 (fun n => l.ev[n].pin)

/-- A POWER restart: every piece of state takes its power-on value (R151). The pins keep their levels. -/
def powerRestart (sa : Address) (s : State) : State :=
  { State.afterPower s.lines.pins s.lines.veto.pin sa with
    choice := s.choice, openRises := s.openRises, pending := s.pending }

/-- A station without state (R151, log 5): power-on values, no attention flag, and this supply and RESET. -/
def blankStation (p : Power) (sa : Address) (s : State) : State :=
  { powerRestart sa s with power := p, port := { response := noResponse, attention := 0#6, bus := .idle } }

/-- POWER_RESTART (R151). While RESET is low the station is held, and the release of RESET is the POWER restart. -/
def execPowerRestart (sa : Address) (s : State) : Host.Outcome State Fault Refusal :=
  match s.power.resetPin with
  | .high => .next (powerRestart sa s)
  | .low => .next (blankStation { supply := true, resetPin := .low, powerOnRelease := true } sa s)

/-- SUPPLY_LOSS (R151): the station holds no state, and ATTN is released (R171). -/
def execSupplyLoss (s : State) : Host.Outcome State Fault Refusal :=
  .next (blankStation { supply := false, resetPin := s.power.resetPin, powerOnRelease := false } s.station.saPins s)

/-- The transceiver while RESET is held low: assembly OFF, GTX recessive (R71, R152). -/
def Link.hold (l : Link) : Link :=
  { l with attempt := none, rx := .off, latch := none }

/-- A transaction in progress as RESET falls is discarded when CS rises, be it before or after the release (R161). -/
def Bus.cut : Bus → Bus
  | .idle => .idle
  | .begun => .cutOff
  | .cutOff => .cutOff

/-- RESET_LOW (R152): the station is held. -/
def execResetLow (s : State) : Host.Outcome State Fault Refusal :=
  if s.running then
    .next (((s.setPower { s.power with resetPin := .low }).setLink s.link.hold).setPort { s.port with bus := s.port.bus.cut })
  else .next (s.setPower { s.power with resetPin := .low })

/-- HARD_RESTART (R152), or the POWER restart that R151 makes of it. -/
def execHardRestart (sa : Address) (s : State) : Host.Outcome State Fault Refusal :=
  if s.power.supply then
    if s.power.powerOnRelease then .next (powerRestart sa s) else .next (hardRestart sa s)
  else .next ((s.setPower { s.power with resetPin := .high }).setStation { s.station with saPins := sa })

end Sys2Proof.Machine
end

