-- ==== Sys2Proof/Machine/Port.lean ====
section
/-! DEFINITION. The control port: the host commands and their results (Chapter 10). -/

namespace Sys2Proof.Machine

/-- CS falls and a transaction begins (R161). The host does this to the pin; the table has no row for it (log 27). -/
def State.beginTransaction (s : State) : State :=
  if s.power.supply && s.port.bus == .idle then s.setPort { s.port with bus := .begun } else s

/-- CS rises and the transaction ends (R161). -/
def State.endTransaction (s : State) : State :=
  s.setPort { s.port with bus := .idle }

/-- The transaction ends with the completion of its command (R161), and the held response becomes this one (R162). -/
def State.answer (s : State) (r : Response) : State :=
  s.setPort { s.port with response := r, bus := .idle }

/-- The transaction ends, and the held response becomes this result, with no response bytes. -/
def State.result (s : State) (r : Result) : State :=
  s.answer { result := r, body := .empty }

/-- RESET, held low, is released at this moment: the next command waiting is HARD_RESTART. A transaction that completes
now completes with the release, and its place in the queue has it taken first (R152, log 32). -/
def State.releasing (s : State) : Bool :=
  s.power.supply && s.power.resetPin == .low &&
    match s.pending with
    | .hardRestart _ :: _ => true
    | _ => false

/-- A transaction completes: the command is taken whole, and ends the transaction. A transaction begun before RESET went
low is discarded, and a station that is held or without supply takes none (R161), but for one that completes at the
release of RESET (R152). -/
def transact (f : State → State) (s : State) : Host.Outcome State Fault Refusal :=
  if s.port.bus ≠ .cutOff ∧ (s.running || s.releasing) then .next (f s) else .next s.endTransaction

/-! ### Reporting commands -/

/-- The fields of STATUS (R164). -/
def statusReport (s : State) : StatusReport :=
  { mode := s.station.mode, address := s.station.address, restartCause := s.peers.restartCause
    openSlot := s.ctrl.current.map OpenEpisode.slot, claim := s.ctrl.current.map OpenEpisode.claim
    occupied := s.ctrl.register.isSome, ownBusy := s.ctrl.ownBusy, groupBusy := s.ctrl.groupBusy
    localHold := s.ctrl.localHold, groupHold := s.ctrl.groupHold
    freeSlots := s.store.freeSlots, freeEntries := s.store.freeEntries, highest := s.ctrl.highest
    groupTime := s.time.group, failures := s.link.failures
    attention := s.port.attention, attentionMask := s.config.items.attentionMask }

/-- STATUS (R164). -/
def execStatus (s : State) : Host.Outcome State Fault Refusal :=
  transact (fun s => s.answer { result := .ok, body := .status (statusReport s) }) s

/-- READ COUNTERS (R15). -/
def execReadCounters (s : State) : Host.Outcome State Fault Refusal :=
  transact (fun s => s.answer
    { result := .ok
      body := .counters s.counters (vecOf 16 (fun n => (s.line n).level)) s.lines.veto.level s.time.group }) s

/-- A time since last heard in whole ms, held at 65,535 (R165); the rounding is free (log 14). -/
def sinceHeardMs (us : Nat) : Nat :=
  min 65535 (if us % 1000 = 0 then us / 1000 else us / 1000 + (Config.roundsUp us).toNat)

/-- The fields of READ PEER (R165). -/
def peerReport (e : PeerEntry) (now : Nat) : PeerReport :=
  { state := e.state, interval := e.interval
    sinceHeard := e.lastHeard.map (fun t => sinceHeardMs (now - t))
    highest := e.highest, busy := e.busy, groupHold := e.groupHold, localHold := e.localHold
    rollCallMark := e.rollCallMark }

/-- READ PEER (R165). -/
def execReadPeer (a : Byte) (s : State) : Host.Outcome State Fault Refusal :=
  transact (fun s =>
    if a.toNat = 0 ∨ 31 < a.toNat then s.result .range
    else
      let address : Address := BitVec.ofNat 5 a.toNat
      if address = s.station.address then s.result .notFound
      else s.answer { result := .ok, body := .peer (peerReport (s.peer address) s.now) }) s

/-- READ HISTORY (R26). -/
def execReadHistory (s : State) : Host.Outcome State Fault Refusal :=
  transact (fun s => (s.setRing s.ring.restartCursor).answer
    { result := .ok
      body := .history s.ring.records.length (s.ring.records.head?.map Record.seq) s.ring.nextSeq }) s

/-- A count of 1 to 16 (R28, R145). -/
def countInRange (n : Byte) : Bool :=
  decide (1 ≤ n.toNat) && decide (n.toNat ≤ 16)

/-- READ HISTORY NEXT (R28). -/
def execReadHistoryNext (n : Byte) (s : State) : Host.Outcome State Fault Refusal :=
  transact (fun s =>
    if countInRange n then (s.setRing (s.ring.readNext n.toNat).1).answer (s.ring.readNext n.toNat).2
    else s.result .range) s

/-! ### The store -/

/-- LIST EPISODES (R142). -/
def execListEpisodes (s : State) : Host.Outcome State Fault Refusal :=
  transact (fun s => s.answer s.store.list) s

/-- SELECT EPISODE (R143). -/
def execSelectEpisode (slot : Byte) (s : State) : Host.Outcome State Fault Refusal :=
  transact (fun s => (s.setStore (s.store.select slot).1).result (s.store.select slot).2) s

/-- READ HEADER (R144). -/
def execReadHeader (s : State) : Host.Outcome State Fault Refusal :=
  transact (fun s => s.answer s.store.readHeader) s

/-- READ RECORDS (R145). -/
def execReadRecords (n : Byte) (s : State) : Host.Outcome State Fault Refusal :=
  transact (fun s =>
    if countInRange n then (s.setStore (s.store.readRecords n.toNat).1).answer (s.store.readRecords n.toNat).2
    else s.result .range) s

/-- A release in one handling (R146, R147): the slot, its entries, the selection, then own BUSY and what its
change brings. -/
def releaseSlot (i : Fin 8) (e : Episode) (s : State) : State :=
  evaluateBusy (s.setStore (s.store.release i e))

/-- RELEASE EPISODE (R146). -/
def execReleaseEpisode (slot : Byte) (s : State) : Host.Outcome State Fault Refusal :=
  transact (fun s =>
    match slotIndex slot with
    | none => s.result .range
    | some i =>
      match s.store.slot i with
      | .free => s.result .notFound
      | .filling _ => s.result .notComplete
      | .complete e => settle ((releaseSlot i e s).result .ok)) s

/-! ### Commands that act -/

/-- SOFTWARE TRIGGER (R166). The offers of an opening are taken after it (R48). -/
def execSoftwareTrigger (s : State) : Host.Outcome State Fault Refusal :=
  transact (fun s =>
    match request .software s.time.group s with
    | (_, none) => s.result .refusedState
    | (s1, some d) => settle (s1.answer { result := .ok, body := .software d s.time.group })) s

/-- CLOSE EPISODE (R116, R167). -/
def execCloseEpisode (s : State) : Host.Outcome State Fault Refusal :=
  transact (fun s =>
    if s.station.mode = .config then s.result .refusedState
    else
      match s.ctrl.current, s.openEpisode with
      | some o, some e =>
        settle ((closeEpisode .cutByHost s).answer { result := .ok, body := .closed o.slot e.header.number })
      | _, _ => s.result .notFound) s

/-- SET LOCAL HOLD (R129, R168): OFF 0, ON 1. -/
def execSetLocalHold (v : Byte) (s : State) : Host.Outcome State Fault Refusal :=
  transact (fun s =>
    if v = 0#8 ∨ v = 1#8 then
      let s1 := setLocalHold (v == 1#8) s
      settle (s1.answer { result := .ok, body := .holds s1.ctrl.localHold s1.ctrl.groupHold })
    else s.result .range) s

/-- The group command of a command code (R176). -/
def groupCommandOfByte (c : Byte) : Option GroupCommand :=
  match c.toNat with
  | 1 => some .clearCounters
  | 2 => some .hold
  | 3 => some .resume
  | _ => none

/-- The argument listed with a group command: the mask, or 0 for HOLD and RESUME (R133). -/
def listedArgument (c : GroupCommand) (mask : Mask) : Mask :=
  match c with
  | .clearCounters => mask
  | .hold => 0#16
  | .resume => 0#16

/-- A GROUP COMMAND added to the transmit list (R60). -/
def Link.listCommand (l : Link) (c : GroupCommand) (argument : Mask) : Link :=
  { l with list := { l.list with commands := l.list.commands ++ [(c, argument)] } }

/-- SEND GROUP COMMAND (R133). -/
def execSendGroupCommand (code : Byte) (mask : Mask) (s : State) : Host.Outcome State Fault Refusal :=
  transact (fun s =>
    match groupCommandOfByte code with
    | none => s.result .range
    | some c =>
      if s.station.mode ≠ .active then s.result .refusedState
      else if 2 ≤ s.link.list.commands.length then s.result .queueFull
      else (s.setLink (s.link.listCommand c (listedArgument c mask))).result .ok) s

/-- REJOIN accepted (R86): the failure count is 0 and the station enters ROLLCALL. -/
def rejoinGroup (s : State) : State :=
  enterRollCall (s.setLink { s.link with failures := 0 })

/-- REJOIN (R86). -/
def execRejoin (s : State) : Host.Outcome State Fault Refusal :=
  transact (fun s =>
    if s.station.mode = .mute .lineFault then (rejoinGroup s).result .ok else s.result .refusedState) s

/-- RESTART (R153): a SOFT restart, whose held response is NONE; refused in CONFIG. -/
def execRestart (sa : Address) (s : State) : Host.Outcome State Fault Refusal :=
  transact (fun s => if s.station.mode = .config then s.result .refusedState else (softRestart sa s).endTransaction) s

/-- ACK ATTENTION (R170). -/
def execAckAttention (mask : Byte) (s : State) : Host.Outcome State Fault Refusal :=
  transact (fun s =>
    let before := s.port.attention
    let after := before &&& ~~~(mask.setWidth 6)
    (s.setPort { s.port with attention := after }).answer
      { result := .ok, body := .acknowledged before after }) s

/-! ### Configuration -/

/-- A write in force (R156, R157): the items, and own BUSY, which a write of R evaluates. -/
def applyWrite (i : Item) (x : Settings) (s : State) : State :=
  let s1 := s.setConfig { s.config with items := x }
  if i = .reserve then evaluateBusy s1 else s1

/-- WRITE CONFIG (R156). -/
def execWriteConfig (item index : Byte) (value : BitVec 56) (s : State) : Host.Outcome State Fault Refusal :=
  transact (fun s =>
    if s.config.window = .closed then s.result .closed
    else
      match itemOf item index with
      | none => s.result .range
      | some i =>
        match s.config.items.write i value with
        | none => s.result .range
        | some x => (applyWrite i x s).result .ok) s

/-- READ CONFIG (R160). -/
def execReadConfig (item index : Byte) (s : State) : Host.Outcome State Fault Refusal :=
  transact (fun s =>
    match itemOf item index with
    | none => s.result .range
    | some i => s.answer { result := .ok, body := .config item index (s.config.items.read i) }) s

/-- The transceiver as the station leaves CONFIG (step 2 of R159): the bit rate in force, WAIT-FREE, an empty
transmit list and a failure count of 0. -/
def Link.leaveConfig (r : BitRate) : Link :=
  { restartedLink with rate := r, rx := .waitFree }

/-- The window closes (R159): bit rate and receive assembly, then the station state by the address. -/
def closeWindow (s : State) : State :=
  let s1 := s.setConfig { s.config with window := .closed }
  enterByAddress (s1.setLink (Link.leaveConfig s1.config.items.bitRate))

/-- CLOSE CONFIG (R158, R159). -/
def execCloseConfig (s : State) : Host.Outcome State Fault Refusal :=
  transact (fun s =>
    if s.config.window = .closed then s.result .closed
    else
      match s.config.items.failing with
      | some i => s.answer { result := .invalid, body := .invalid i }
      | none => (closeWindow s).result .ok) s

/-! ### Transactions that carry no command -/

/-- SHORT_TRANSACTION (step 1 of R163). -/
def execShortTransaction (s : State) : Host.Outcome State Fault Refusal :=
  transact (fun s => s.result .short) s

/-- UNKNOWN_COMMAND (step 2 of R163). -/
def execUnknownCommand (s : State) : Host.Outcome State Fault Refusal :=
  transact (fun s => s.result .unknown) s

end Sys2Proof.Machine
end

