-- ==== Sys2Proof/Machine/Clock.lean ====
section
/-! DEFINITION. The station's clock: one microsecond passes, and the expiry of each timer then due is queued (log 1, 2, 3). -/

namespace Sys2Proof.Machine

/-- A command if its event is due. -/
def whenDue (due : Bool) (c : Instr) : List Instr :=
  if due then [c] else []

/-- The addresses of peers: 1 to 31. -/
def peerAddresses : List Address :=
  (List.range 31).map (fun i => BitVec.ofNat 5 (i + 1))

/-- The timers of a station that takes events, which have reached their limits. -/
def dueTimers (s : State) : List Instr :=
  (List.finRange 16).flatMap (fun n => whenDue ((s.line n).due s.now) (.qualificationTimerExpiry n))
    ++ whenDue (s.lines.veto.due s.now) .vetoQualificationExpiry
    ++ (List.finRange 4).flatMap (fun k => whenDue (s.windowDue k) (.windowExpiry k))
    ++ whenDue s.postTimeDue .postTimeExpiry
    ++ whenDue s.holdLimitDue .holdLimitExpiry
    ++ peerAddresses.flatMap (fun a => whenDue ((s.peer a).silent s.now) (.silenceTimerExpiry a))
    ++ whenDue s.beaconDue .beaconTimerExpiry
    ++ whenDue s.rollCallDue .rollCallExpiry

/-- The expiries due: none of a held station's timers (R152), and the limit of group time, which counts while
RESET is low too (R87). -/
def dueExpiries (s : State) : List Instr :=
  (if s.running then dueTimers s else [])
    ++ whenDue (s.time.group == Time.limit && !s.time.stopped) .groupTimeLimit

/-- One microsecond passes. The expiries then due join the queue in a free order (log 3). Without supply there is
no clock. -/
def tick (s : State) : State :=
  if s.power.supply then
    let s1 := s.setTime s.time.tick
    let due := dueExpiries s1
    (s1.setPending (s1.pending ++ freeOrder s1.choice due)).setChoice (s1.choice + choicesFor due.length)
  else s

end Sys2Proof.Machine
end

