-- ==== Sys2Proof/Machine/Dispatch.lean ====
section
/-! DEFINITION. One arm per command: each arm one direct call of its meaning. -/

namespace Sys2Proof.Machine

def exec (i : Instr) (s : State) : Host.Outcome State Fault Refusal :=
  match i with
  | .linePinChange n level => Sys2Proof.Machine.execLinePinChange n level s
  | .qualificationTimerExpiry n => Sys2Proof.Machine.execQualificationTimerExpiry n s
  | .vetoPinChange level => Sys2Proof.Machine.execVetoPinChange level s
  | .vetoQualificationExpiry => Sys2Proof.Machine.execVetoQualificationExpiry s
  | .windowExpiry k => Sys2Proof.Machine.execWindowExpiry k s
  | .postTimeExpiry => Sys2Proof.Machine.execPostTimeExpiry s
  | .holdLimitExpiry => Sys2Proof.Machine.execHoldLimitExpiry s
  | .lineFree => Sys2Proof.Machine.execLineFree s
  | .attemptStart => Sys2Proof.Machine.execAttemptStart s
  | .arbitrationLoss => Sys2Proof.Machine.execArbitrationLoss s
  | .attemptFailure e => Sys2Proof.Machine.execAttemptFailure e s
  | .attemptSuccess => Sys2Proof.Machine.execAttemptSuccess s
  | .messageAbandon => Sys2Proof.Machine.execMessageAbandon s
  | .messageInvalid => Sys2Proof.Machine.execMessageInvalid s
  | .ownAddressMessage => Sys2Proof.Machine.execOwnAddressMessage s
  | .triggerReceived m => Sys2Proof.Machine.execTriggerReceived m s
  | .beaconReceived m => Sys2Proof.Machine.execBeaconReceived m s
  | .clearCountersReceived sender mask => Sys2Proof.Machine.execClearCountersReceived sender mask s
  | .holdReceived sender => Sys2Proof.Machine.execHoldReceived sender s
  | .resumeReceived sender => Sys2Proof.Machine.execResumeReceived sender s
  | .silenceTimerExpiry a => Sys2Proof.Machine.execSilenceTimerExpiry a s
  | .beaconTimerExpiry => Sys2Proof.Machine.execBeaconTimerExpiry s
  | .rollCallExpiry => Sys2Proof.Machine.execRollCallExpiry s
  | .groupTimeLimit => Sys2Proof.Machine.execGroupTimeLimit s
  | .powerRestart sa => Sys2Proof.Machine.execPowerRestart sa s
  | .supplyLoss => Sys2Proof.Machine.execSupplyLoss s
  | .resetLow => Sys2Proof.Machine.execResetLow s
  | .hardRestart sa => Sys2Proof.Machine.execHardRestart sa s
  | .status => Sys2Proof.Machine.execStatus s
  | .writeConfig item index value => Sys2Proof.Machine.execWriteConfig item index value s
  | .readConfig item index => Sys2Proof.Machine.execReadConfig item index s
  | .closeConfig => Sys2Proof.Machine.execCloseConfig s
  | .readCounters => Sys2Proof.Machine.execReadCounters s
  | .readPeer address => Sys2Proof.Machine.execReadPeer address s
  | .readHistory => Sys2Proof.Machine.execReadHistory s
  | .readHistoryNext n => Sys2Proof.Machine.execReadHistoryNext n s
  | .listEpisodes => Sys2Proof.Machine.execListEpisodes s
  | .selectEpisode slot => Sys2Proof.Machine.execSelectEpisode slot s
  | .readHeader => Sys2Proof.Machine.execReadHeader s
  | .readRecords n => Sys2Proof.Machine.execReadRecords n s
  | .releaseEpisode slot => Sys2Proof.Machine.execReleaseEpisode slot s
  | .softwareTrigger => Sys2Proof.Machine.execSoftwareTrigger s
  | .closeEpisode => Sys2Proof.Machine.execCloseEpisode s
  | .setLocalHold value => Sys2Proof.Machine.execSetLocalHold value s
  | .sendGroupCommand code mask => Sys2Proof.Machine.execSendGroupCommand code mask s
  | .rejoin => Sys2Proof.Machine.execRejoin s
  | .restart sa => Sys2Proof.Machine.execRestart sa s
  | .ackAttention mask => Sys2Proof.Machine.execAckAttention mask s
  | .startBitReceived => Sys2Proof.Machine.execStartBitReceived s
  | .shortTransaction => Sys2Proof.Machine.execShortTransaction s
  | .unknownCommand => Sys2Proof.Machine.execUnknownCommand s

end Sys2Proof.Machine
end

