-- ==== Sys2Proof/Machine/Formats.lean ====
section
/-! DEFINITION. The bytes of records, headers and responses on the control port (R175, R176). -/

namespace Sys2Proof.Machine

/-- A set-or-clear value (R176). -/
def flagByte (b : Bool) : List Byte := [if b then 1#8 else 0#8]

/-- One byte that holds a number. -/
def byteOf (n : Nat) : List Byte := [BitVec.ofNat 8 n]

/-- An optional field: a presence byte, then its full width in either case (R176). -/
def optionalBytes {α : Type} (width : Nat) (number : α → Nat) : Option α → List Byte
  | none => 0#8 :: bytesOfNat width 0
  | some a => 1#8 :: bytesOfNat width (number a)

/-! ### Records (R175) -/

/-- The kind code of a record. -/
def RecordBody.kindCode : RecordBody → Nat
  | .edge _ _ _ => 1
  | .wrap _ => 2
  | .vetoOn => 3
  | .vetoOff => 4
  | .fire _ _ => 5
  | .anchor _ _ => 6
  | .suppressed _ _ => 7
  | .remoteTrigger _ _ _ => 8
  | .gap _ => 9
  | .timeStep _ _ => 10
  | .peerLost _ => 11
  | .peerBack _ => 12
  | .peerRestart _ _ => 13

/-- The source of a record, 255 for none (R175). -/
def RecordBody.source : RecordBody → Nat
  | .edge n _ _ => n.val
  | .wrap n => n.val
  | .vetoOn => 255
  | .vetoOff => 255
  | .fire k _ => k.val
  | .anchor _ _ => 255
  | .suppressed (.unit k) _ => k.val
  | .suppressed .software _ => 255
  | .remoteTrigger a _ _ => a.toNat
  | .gap _ => 255
  | .timeStep a _ => a.toNat
  | .peerLost a => a.toNat
  | .peerBack a => a.toNat
  | .peerRestart a _ => a.toNat

/-- A cause code as a number (R173). -/
def CauseCode.number : CauseCode → Nat
  | .own (.unit k) => k.val
  | .own .software => 4
  | .remote => 5

/-- The value of a record, where its kind has one (R22, R23). -/
def RecordBody.value : RecordBody → Option Nat
  | .edge _ v _ => some v.toNat
  | .wrap _ => none
  | .vetoOn => none
  | .vetoOff => none
  | .fire _ n => some n
  | .anchor c _ => some c.number
  | .suppressed _ _ => none
  | .remoteTrigger _ n _ => some n.toNat
  | .gap n => some n.toNat
  | .timeStep _ n => some n.toNat
  | .peerLost _ => none
  | .peerBack _ => none
  | .peerRestart _ _ => none

/-- The code of a SUPPRESSED flag (R175). -/
def SuppressedFlag.code : SuppressedFlag → Nat
  | .hold => 1
  | .noSlot => 2
  | .expired => 3
  | .numbersExhausted => 4

/-- The code of a restart cause (R173, R176). -/
def restartCauseNumber : RestartCause → Nat
  | .power => 1
  | .hard => 2
  | .soft => 3

/-- The flag code of a record, 0 when there is no flag (R175). -/
def RecordBody.flagCode : RecordBody → Nat
  | .edge _ _ .rise => 1
  | .edge _ _ .fall => 2
  | .wrap _ => 0
  | .vetoOn => 0
  | .vetoOff => 0
  | .fire _ _ => 0
  | .anchor _ .origin => 1
  | .anchor _ .follow => 2
  | .anchor _ .localOpening => 3
  | .suppressed _ f => f.code
  | .remoteTrigger _ _ none => 0
  | .remoteTrigger _ _ (some .stale) => 1
  | .remoteTrigger _ _ (some .late) => 2
  | .remoteTrigger _ _ (some .notCaptured) => 3
  | .gap _ => 0
  | .timeStep _ _ => 0
  | .peerLost _ => 0
  | .peerBack _ => 0
  | .peerRestart _ c => restartCauseNumber c

/-- The 17 bytes of a history record (R175). R175 gives bits 3 to 6 of byte 10 no meaning and no value; that they are sent
as 0 is the model's choice (log 35). -/
def Record.bytes (r : Record) : List Byte :=
  bytesOfNat 2 r.seq.toNat ++ bytesOfNat 6 r.time.toNat ++ byteOf r.body.kindCode ++ byteOf r.body.source
    ++ byteOf ((if r.body.value.isSome then 128 else 0) + r.body.flagCode)
    ++ bytesOfNat 6 (r.body.value.getD 0)

/-! ### Headers (R175) -/

/-- The code of a role. -/
def Role.code : Role → Nat
  | .originator => 1
  | .coTriggered => 2
  | .follower => 3
  | .localRole => 4

/-- The code of an end status. -/
def EndStatus.code : EndStatus → Nat
  | .full => 1
  | .timed => 2
  | .cutByNext => 3
  | .cutByHost => 4
  | .cutByRestart => 5
  | .truncated => 6

/-- The nine bytes of a cause entry. -/
def CauseEntry.bytes : CauseEntry → List Byte
  | .own c t => byteOf (CauseCode.own c).number ++ byteOf 0 ++ byteOf 0 ++ bytesOfNat 6 t.toNat
  | .remote a c t => byteOf 5 ++ byteOf a.toNat ++ byteOf (CauseCode.own c).number ++ bytesOfNat 6 t.toNat

/-- The five bytes of a snapshot pair. -/
def pairBytes (p : Fin 16 × Word32) : List Byte :=
  byteOf p.1.val ++ bytesOfNat 4 p.2.toNat

/-- Entries in list order, and bytes of 0 up to the full width (R175). -/
def entryBytes (width : Nat) (entries : List (List Byte)) : List Byte :=
  let bs := (entries.flatten).take width
  bs ++ List.replicate (width - bs.length) 0#8

/-- The presence byte of a header (R175). That bits 3 to 7, to which R175 assigns nothing, are 0 is the model's choice
(log 35). -/
def Header.presence (h : Header) : Nat :=
  h.number.isSome.toNat + 2 * h.originator.isSome.toNat + 4 * h.originTime.isSome.toNat

/-- The flags byte of a header (R175). That bits 4 to 7, to which R175 assigns nothing, are 0 is the model's choice
(log 35). -/
def HeaderFlags.number (f : HeaderFlags) : Nat :=
  f.gapBefore.toNat + 2 * f.timeStepped.toNat + 4 * f.causesOverflow.toNat + 8 * f.truncatedPre.toNat

/-- The 145 bytes of READ HEADER (R175); an absent field's bytes are 0. -/
def Header.bytes (h : Header) (held : Nat) : List Byte :=
  byteOf h.slot.val ++ byteOf h.presence ++ bytesOfNat 4 ((h.number.map BitVec.toNat).getD 0)
    ++ byteOf h.role.code ++ byteOf ((h.originator.map BitVec.toNat).getD 0)
    ++ bytesOfNat 6 h.anchorTime.toNat ++ bytesOfNat 6 ((h.originTime.map BitVec.toNat).getD 0)
    ++ byteOf h.causes.length ++ entryBytes 36 (h.causes.map CauseEntry.bytes)
    ++ byteOf h.preCount ++ bytesOfNat 2 h.postCount
    ++ byteOf h.snapshot.length ++ entryBytes 80 (h.snapshot.map pairBytes)
    ++ byteOf ((h.endStatus.map EndStatus.code).getD 0) ++ byteOf h.flags.number ++ bytesOfNat 2 held

/-! ### Responses (R176) -/

/-- The result codes. -/
def Result.code : Result → Nat
  | .ok => 0
  | .noneYet => 1
  | .short => 2
  | .unknown => 3
  | .refusedState => 4
  | .range => 5
  | .invalid => 6
  | .closed => 7
  | .notFound => 8
  | .notComplete => 9
  | .noSelection => 10
  | .atEnd => 11
  | .queueFull => 12

/-- The code of a station state. -/
def Mode.code : Mode → Nat
  | .config => 0
  | .rollCall => 1
  | .active => 2
  | .mute _ => 3

/-- The mute reason, absent outside MUTE (R84, R164). -/
def Mode.reason : Mode → Option MuteReason
  | .config => none
  | .rollCall => none
  | .active => none
  | .mute r => some r

/-- The code of a mute reason. -/
def MuteReason.code : MuteReason → Nat
  | .noAddress => 1
  | .conflict => 2
  | .lineFault => 3

/-- The code of a claim state. -/
def Claim.code : Claim → Nat
  | .unannounced => 1
  | .announced => 2
  | .learned => 3

/-- The code of a peer state. -/
def PeerState.code : PeerState → Nat
  | .absent => 0
  | .present => 1
  | .lost => 2

/-- The 30 bytes of STATUS (R164). That bits 6 and 7 of the two bytes of attention flags are 0 is the model's choice
(log 35). -/
def StatusReport.bytes (r : StatusReport) : List Byte :=
  byteOf r.mode.code ++ optionalBytes 1 MuteReason.code r.mode.reason ++ byteOf r.address.toNat
    ++ byteOf (restartCauseNumber r.restartCause) ++ optionalBytes 1 Fin.val r.openSlot
    ++ optionalBytes 1 Claim.code r.claim ++ flagByte r.occupied ++ flagByte r.ownBusy ++ flagByte r.groupBusy
    ++ flagByte r.localHold ++ flagByte r.groupHold ++ byteOf r.freeSlots ++ bytesOfNat 2 r.freeEntries
    ++ bytesOfNat 4 r.highest.toNat ++ bytesOfNat 6 r.groupTime.toNat ++ byteOf r.failures
    ++ byteOf r.attention.toNat ++ byteOf r.attentionMask.toNat

/-- The 15 bytes of READ PEER (R165). -/
def PeerReport.bytes (r : PeerReport) : List Byte :=
  byteOf r.state.code ++ optionalBytes 1 BitVec.toNat r.interval ++ optionalBytes 2 id r.sinceHeard
    ++ optionalBytes 4 BitVec.toNat r.highest ++ flagByte r.busy ++ flagByte r.groupHold ++ flagByte r.localHold
    ++ flagByte r.rollCallMark

/-- The 12 bytes of an entry of LIST EPISODES (R142). -/
def Listing.bytes (l : Listing) : List Byte :=
  byteOf l.slot.val ++ byteOf (if l.complete then 2 else 1) ++ optionalBytes 4 BitVec.toNat l.number
    ++ byteOf l.role.code ++ bytesOfNat 2 l.held ++ optionalBytes 1 EndStatus.code l.endStatus

/-- The code of the outcome of a SOFTWARE TRIGGER (R176). -/
def Decision.code : Decision → Nat
  | .suppressed _ => 1
  | .added _ => 2
  | .notAdded _ => 3
  | .opened _ _ => 4
  | .held => 5
  | .merged => 6
  | .notMerged => 7

/-- The SUPPRESSED flag of an outcome, 0 for any other (R166, R176). -/
def Decision.flag : Decision → Nat
  | .suppressed f => f.code
  | .added _ => 0
  | .notAdded _ => 0
  | .opened _ _ => 0
  | .held => 0
  | .merged => 0
  | .notMerged => 0

/-- The slot of an outcome (R166). -/
def Decision.slot : Decision → Option (Fin 8)
  | .suppressed _ => none
  | .added i => some i
  | .notAdded i => some i
  | .opened i _ => some i
  | .held => none
  | .merged => none
  | .notMerged => none

/-- The episode number of an outcome (R166). -/
def Decision.number : Decision → Option Word32
  | .suppressed _ => none
  | .added _ => none
  | .notAdded _ => none
  | .opened _ n => n
  | .held => none
  | .merged => none
  | .notMerged => none

/-- The lines at HIGH as a channel mask (R176). -/
def levelMask (v : Vector Level 16) : Nat :=
  (List.finRange 16).foldl (fun acc n => acc + (if v[n] = .high then 2 ^ n.val else 0)) 0

/-- A level as one byte. -/
def levelByte : Level → List Byte
  | .low => [0#8]
  | .high => [1#8]

/-- The response bytes of a body (R176). That bits 6 and 7 of the two bytes of ACK ATTENTION are 0 is the model's choice
(log 35). -/
def Body.bytes : Body → List Byte
  | .empty => []
  | .status r => r.bytes
  | .config c i v => [c, i] ++ bytesOfNat 7 v.toNat
  | .invalid i => [i.code, i.index]
  | .counters vs ls v t =>
    (vs.toList.map (fun c => bytesOfNat 4 c.toNat)).flatten ++ bytesOfNat 2 (levelMask ls) ++ levelByte v
      ++ bytesOfNat 6 t.toNat
  | .peer r => r.bytes
  | .history p o n => bytesOfNat 2 p ++ optionalBytes 2 BitVec.toNat o ++ bytesOfNat 2 n.toNat
  | .skipped => [2#8, 0#8]
  | .records rs => byteOf 1 ++ byteOf rs.length ++ (rs.map Record.bytes).flatten
  | .episodes f e ls => byteOf f ++ bytesOfNat 2 e ++ byteOf ls.length ++ (ls.map Listing.bytes).flatten
  | .header h held => h.bytes held
  | .slotRecords p m rs => bytesOfNat 2 p ++ byteOf rs.length ++ bytesOfNat 2 m ++ (rs.map Record.bytes).flatten
  | .software d t =>
    byteOf d.code ++ byteOf d.flag ++ optionalBytes 1 Fin.val d.slot ++ optionalBytes 4 BitVec.toNat d.number
      ++ bytesOfNat 6 t.toNat
  | .closed i n => byteOf i.val ++ optionalBytes 4 BitVec.toNat n
  | .holds l g => flagByte l ++ flagByte g
  | .acknowledged b a => byteOf b.toNat ++ byteOf a.toNat

/-- The bytes of a held response: the result code, then the response bytes (R162). -/
def Response.bytes (r : Response) : List Byte :=
  byteOf r.result.code ++ r.body.bytes

/-- Byte k that the next transaction shifts out (R161, R162): the held response, 0 after its end, and the code
of NONE while RESET is held low. R161 gives no byte without supply: the code of NONE there is the model's choice (log 5),
and SDO is undriven then. -/
def State.sdoByte (s : State) (k : Nat) : Byte :=
  if s.running then (s.port.response.bytes[k]?).getD 0#8 else BitVec.ofNat 8 Result.noneYet.code

/-- The level at the CS pin: low while a transaction is in progress (R161). -/
def State.csPin (s : State) : Level :=
  match s.port.bus with
  | .idle => .high
  | .begun => .low
  | .cutOff => .low

/-- The level at SDO after `k` falling edges of SCK in a transaction: bit by bit, most significant bit first, and
undriven (absent) while CS is high (R161). Without supply SDO is undriven too: the model's choice (log 5). -/
def State.sdo (s : State) (k : Nat) : Option Bool :=
  match s.csPin with
  | .high => none
  | .low => if s.power.supply then some ((s.sdoByte (k / 8)).getLsbD (7 - k % 8)) else none

end Sys2Proof.Machine
end

