-- ==== Sys2Proof/Safety.lean ====
section
/-! DEFINITION. What a sound state of the station is: the statements the spec makes about every moment, as predicates on states. -/

namespace Sys2Proof.Machine

/-! ### History ring -/

/-- The ring holds at most 256 records, and their sequence numbers are an unbroken run that ends before the next
sequence number (R18, R20). -/
def Ring.Numbered (r : Ring) : Prop :=
  r.records.length ≤ ringCapacity ∧
    ∀ k, (h : k < r.records.length) → r.records[k].seq = r.nextSeq - BitVec.ofNat 16 (r.records.length - k)

/-- A VALID cursor points to a record present, and a WAITING cursor to the next one to be written (section
2.4.1). -/
def Ring.CursorSound (r : Ring) : Prop :=
  match r.cursor with
  | .notStarted => True
  | .valid q => ∃ rec ∈ r.records, rec.seq = q
  | .waiting q => q = r.nextSeq
  | .lost _ => r.records ≠ []

/-- The time fields of the records never fall in order of writing, and none is later than `g` (R19). -/
def Ring.Timed (r : Ring) (g : Time) : Prop :=
  (r.records.map Record.time).Pairwise (fun x y => x ≤ y) ∧ ∀ rec ∈ r.records, rec.time ≤ g

/-! ### Episode store -/

/-- Free record entries plus the records held in all non-FREE slots equal 1024 (R136). -/
def Store.Balanced (st : Store) : Prop :=
  st.freeEntries + st.held = poolSize

/-- The slot is FILLING. -/
def Slot.IsFilling (x : Slot) : Prop :=
  ∃ e, x = .filling e

/-- A slot is FILLING exactly while it is the slot of the open episode (R95). -/
def OpenSlotSound (s : State) : Prop :=
  ∀ i, (s.store.slot i).IsFilling ↔ s.ctrl.current.map OpenEpisode.slot = some i

/-- The opening-order list holds the indices of the non-FREE slots, none twice (R141). -/
def Store.OrderSound (st : Store) : Prop :=
  st.order.Nodup ∧ ∀ i, i ∈ st.order ↔ st.slot i ≠ .free

/-- The selection names a COMPLETE slot, and its cursor stands within the records or just past them (R143). -/
def Store.SelectionSound (st : Store) : Prop :=
  match st.selection with
  | none => True
  | some (i, pos) => ∃ e, st.slot i = .complete e ∧ pos ≤ e.records.length

/-- The record is an ANCHOR. -/
def Record.IsAnchor (r : Record) : Prop :=
  ∃ c f, r.body = .anchor c f

/-- An episode's list holds pre count + 1 + post count records, the ANCHOR at the position of the pre count
(R139). -/
def Episode.Ordered (e : Episode) : Prop :=
  e.records.length = e.header.preCount + 1 + e.header.postCount ∧
    ∃ r, e.records[e.header.preCount]? = some r ∧ r.IsAnchor

/-- Every episode in the store is so ordered. -/
def Store.Ordered (st : Store) : Prop :=
  ∀ i e, (st.slot i).episode = some e → e.Ordered

/-- A header holds 1 to 4 causes and 0 to 16 snapshot pairs (R117). -/
def Header.Bounded (h : Header) : Prop :=
  1 ≤ h.causes.length ∧ h.causes.length ≤ 4 ∧ h.snapshot.length ≤ 16

/-- Every header is so bounded, and an OCCUPIED register holds 1 to 4 causes (R117, section 7.3). -/
def CausesBounded (s : State) : Prop :=
  (∀ i e, (s.store.slot i).episode = some e → e.header.Bounded) ∧
    ∀ h, s.ctrl.register = some h → 1 ≤ h.causes.length ∧ h.causes.length ≤ 4

/-! ### Episode numbers -/

/-- The number of the episode in a slot. -/
def Store.numberAt (st : Store) (i : Fin 8) : Option Word32 :=
  (st.slot i).episode.bind (fun e => e.header.number)

/-- No two slots hold the same present episode number (R117). -/
def Store.NumbersDistinct (st : Store) : Prop :=
  ∀ i j n, st.numberAt i = some n → st.numberAt j = some n → i = j

/-- The highest episode number is at least every number in the store (R93). -/
def HighestBounds (s : State) : Prop :=
  ∀ i n, s.store.numberAt i = some n → n ≤ s.ctrl.highest

/-- The numbers of the other slots lie below the number of the open episode, or below its renumber floor where
its number is absent (R106). -/
def OpenNumberAbove (s : State) : Prop :=
  ∀ o, s.ctrl.current = some o → ∀ i n, i ≠ o.slot → s.store.numberAt i = some n →
    (∀ m, s.store.numberAt o.slot = some m → n < m) ∧
      (s.store.numberAt o.slot = none → ∀ f, o.floor = some f → n < f)

/-- The numbering is sound. -/
def NumbersSound (s : State) : Prop :=
  s.store.NumbersDistinct ∧ HighestBounds s ∧ OpenNumberAbove s

/-! ### Station states -/

/-- The window is OPEN exactly in CONFIG (R155). -/
def WindowSound (s : State) : Prop :=
  s.config.window = .isOpen ↔ s.station.mode = .config

/-- The transmit list is empty and no attempt is in progress in CONFIG and MUTE (R59, R65). -/
def SilentSound (s : State) : Prop :=
  s.station.mode.transmits = false → s.link.list = emptyList ∧ s.link.attempt = none

/-- The transmit list holds at most two GROUP COMMANDs, and the failure count is at most 16, which it reaches only
where the station does not send (R59, R65). -/
def LinkBounded (s : State) : Prop :=
  s.link.list.commands.length ≤ 2 ∧ s.link.failures ≤ failureLimit ∧
    (s.station.mode.transmits = true → s.link.failures < failureLimit)

/-- The transceiver's list and count are sound. -/
def LinkSound (s : State) : Prop :=
  SilentSound s ∧ LinkBounded s

/-- The trigger units are DISABLED in CONFIG and ROLLCALL (R32). -/
def DisarmedSound (s : State) : Prop :=
  s.station.mode = .config ∨ s.station.mode = .rollCall → s.units = disarmedUnits

/-- The held trigger register is EMPTY whenever a hold is set (section 7.3). -/
def HoldSound (s : State) : Prop :=
  s.held = true → s.ctrl.register = none

/-- Own BUSY has the value that the counts and R give (R119). -/
def BusySound (s : State) : Prop :=
  s.ctrl.ownBusy = s.busyByCounts

/-- A peer that is not PRESENT has its flags clear, and group busy is own BUSY or peers-busy (R72, R75, R121). -/
def GroupBusySound (s : State) : Prop :=
  (∀ a, (s.peer a).state ≠ .present → (s.peer a).busy = false) ∧
    s.ctrl.groupBusy = (s.ctrl.ownBusy || s.peersBusy)

/-- No offer is left untaken (R34, R48). -/
def OffersTaken (s : State) : Prop :=
  s.offers = []

/-- Group time stops only at its limit (R87). -/
def TimeSound (s : State) : Prop :=
  s.time.stopped = true → s.time.group = Time.limit

end Sys2Proof.Machine
end

