-- ==== Sys2Proof/WellFormed.lean ====
section
/-! DEFINITION. Which commands can be sent at all: the fields a valid message has (R68), and the addresses a peer has. -/

namespace Sys2Proof

/-- A TRIGGER that R68 lets be valid: sender 1 to 31, number 1 or more. Its cause cannot be REMOTE by its type. -/
def TriggerMessage.wellFormed (m : TriggerMessage) : Bool :=
  m.sender != 0#5 && m.number != 0#32

/-- A BEACON that R68 lets be valid: sender 1 to 31, interval 1 to 255 ms. -/
def BeaconMessage.wellFormed (m : BeaconMessage) : Bool :=
  m.sender != 0#5 && m.interval != 0#8

/-- A command whose operands the spec admits for its event. Host commands are well-formed whatever their
argument bytes: an argument out of its range is answered with a result code (R162). -/
def Instr.wellFormed : Instr → Bool
  | .triggerReceived m => m.wellFormed
  | .beaconReceived m => m.wellFormed
  | .clearCountersReceived a _ => a != 0#5
  | .holdReceived a => a != 0#5
  | .resumeReceived a => a != 0#5
  | .silenceTimerExpiry a => a != 0#5
  | .linePinChange _ _ | .qualificationTimerExpiry _ | .vetoPinChange _ | .vetoQualificationExpiry
  | .windowExpiry _ | .postTimeExpiry | .holdLimitExpiry | .lineFree | .attemptStart | .arbitrationLoss
  | .attemptFailure _ | .attemptSuccess | .messageAbandon | .messageInvalid | .ownAddressMessage
  | .beaconTimerExpiry | .rollCallExpiry | .groupTimeLimit | .powerRestart _ | .supplyLoss | .resetLow
  | .hardRestart _ | .status | .writeConfig _ _ _ | .readConfig _ _ | .closeConfig | .readCounters
  | .readPeer _ | .readHistory | .readHistoryNext _ | .listEpisodes | .selectEpisode _ | .readHeader
  | .readRecords _ | .releaseEpisode _ | .softwareTrigger | .closeEpisode | .setLocalHold _
  | .sendGroupCommand _ _ | .rejoin | .restart _ | .ackAttention _ | .startBitReceived
  | .shortTransaction | .unknownCommand => true

end Sys2Proof
end

