-- ==== Sys2Proof/Certificates/Slice0/Obligations.lean ====
section
/-! DEFINITION. The statements for the provers: what each command does, what every step keeps, and what the bits and bytes are. -/

open Sys2Proof Sys2Proof.Machine

/-! ### Words the statements share -/

namespace Sys2Proof.Machine.Claims

/-- The station takes events (R151, R152), and no offer of an earlier command waits (`OffersTaken`). -/
def Ready (s : State) : Prop :=
  s.running = true ∧ OffersTaken s

/-- RESET, held low, is released now, with this command taken first: HARD_RESTART stands next in the queue (R152,
log 32). -/
def AtRelease (s : State) : Prop :=
  s.power.supply = true ∧ s.power.resetPin = .low ∧ ∃ sa rest, s.pending = .hardRestart sa :: rest

/-- The port takes the transaction that completes now: it is none that began before RESET went low, and the station
takes events, or RESET is released at this moment (R152, R161). -/
def Listens (s : State) : Prop :=
  s.port.bus ≠ .cutOff ∧ (s.running = true ∨ AtRelease s)

/-- The command is a transaction of the control port (R163). -/
def Transacts (c : Instr) : Prop :=
  transactionOf c ≠ none ∨ c = .shortTransaction ∨ c = .unknownCommand

/-- The commands that act on a station that is held in reset or without supply: pins, supply, RESET, and the
limit of group time. -/
def actsWhileHeld : Instr → Bool
  | .linePinChange _ _ => true
  | .vetoPinChange _ => true
  | .powerRestart _ => true
  | .supplyLoss => true
  | .resetLow => true
  | .hardRestart _ => true
  | .groupTimeLimit => true
  | _ => false

/-- The ring after these records are written at group time `g`, one after the other. -/
def logged (g : Time) (bs : List RecordBody) (r : Ring) : Ring :=
  bs.foldl (fun r b => r.put { seq := r.nextSeq, time := g, body := b }) r

/-- The attention flags with one more set. -/
def flag (s : State) (f : Attention) : BitVec 6 :=
  s.port.attention ||| f.bit

/-- Every piece of state but configuration, lines, address, time, store, numbers and attention that a restart of
this cause sets: counters, ring, units, link, peers, holds, register and held response. -/
def Restarted (cause : RestartCause) (t : State) : Prop :=
  (∀ n : Fin 16, t.counters[n] = 0#32) ∧
  t.ring.cursor = .notStarted ∧
  (∀ a, t.peer a = { state := .absent, interval := none, lastHeard := none, highest := none
                     busy := false, groupHold := false, localHold := false, rollCallMark := false }) ∧
  t.peers.beaconTimer = none ∧ t.peers.holdMark = false ∧ t.peers.restartCause = cause ∧
  t.link.list.trigger = false ∧ t.link.list.commands = [] ∧ t.link.attempt = none ∧ t.link.failures = 0 ∧
  t.link.latch = none ∧
  t.ctrl.current = none ∧ t.ctrl.localHold = false ∧ t.ctrl.groupHold = false ∧ t.ctrl.register = none ∧
  t.ctrl.groupBusy = t.ctrl.ownBusy ∧ t.ctrl.ownBusy = t.busyByCounts ∧
  t.store.selection = none ∧
  t.port.response = { result := .noneYet, body := .empty } ∧
  t.flagged .restarted = true

/-- What POWER and HARD restarts set besides: CONFIG with the window open on the defaults of section 9.2.2, no
record, no unit armed, nothing listed, no roll call, assembly OFF at 250 kbit/s. -/
def OnDefaults (t : State) : Prop :=
  t.station.mode = .config ∧ t.config.window = .isOpen ∧
  t.config.items =
    { bitRate := .kbit250, beaconInterval := 10, preCount := 32, postCount := 128, postTime := 100
      reserve := 128, holdLimit := 50
      snapshotMask := 65535#16, resetMask := 0#16, vetoMask := 0#16
      qualTime := Vector.replicate 16 10, recordSetting := Vector.replicate 16 .both
      countingEdge := Vector.replicate 16 .rise
      units := Vector.replicate 4
        { enable := false, condA := .empty, condB := .empty, combinator := .any, window := 1000, count := 1 }
      attentionMask := 63#6 } ∧
  t.ring.records = [] ∧ t.ring.nextSeq = 0#16 ∧
  (∀ k : Fin 4, t.units[k] = .disabled) ∧
  t.link.list.beacon = .absent ∧ t.link.rx = .off ∧ t.link.rate = .kbit250 ∧
  t.peers.rollCallTimer = none

/-- What a POWER restart sets besides: no time, no number, no episode, RESTARTED alone (R148, R151, R169). -/
def PowerOn (t : State) : Prop :=
  Restarted .power t ∧ OnDefaults t ∧
  t.power = { supply := true, resetPin := .high, powerOnRelease := false } ∧
  t.time.group = 0#48 ∧ t.time.stopped = false ∧
  t.ctrl.highest = 0#32 ∧ t.ctrl.gapMark = false ∧ t.ctrl.ownBusy = false ∧
  (∀ i, t.store.slot i = .free) ∧ t.store.freeEntries = 1024 ∧ t.store.order = [] ∧
  t.port.attention = 32#6 ∧ t.port.bus = .idle ∧ OffersTaken t

/-- The slot after a restart that keeps the store: a FILLING slot is closed as CUT-BY-RESTART (R118). -/
def cutByRestart : Slot → Slot
  | .filling e => .complete { e with header := { e.header with endStatus := some .cutByRestart } }
  | .free => .free
  | .complete e => .complete e

/-- The parts that HARD and SOFT restarts keep: time, numbers and store but for the FILLING slot (R87, R93, R118, R149). -/
def Kept (s t : State) : Prop :=
  t.time = s.time ∧ t.ctrl.highest = s.ctrl.highest ∧ t.ctrl.gapMark = s.ctrl.gapMark ∧
  (∀ i, t.store.slot i = cutByRestart (s.store.slot i)) ∧
  t.store.freeEntries = s.store.freeEntries ∧ t.store.order = s.store.order ∧
  t.openRises = s.openRises ∧
  t.choice = s.choice ∧ t.pending = s.pending ∧ OffersTaken t

/-- An opening in slot `i` took the station from `s` to `t`, with these fields by role (R101, R102, R137). Only
slot, pool, ring, counters, the open episode, BUSY and the beacon request change, and OPEN, which is said beside. -/
def Opened (o : Opening) (i : Fin 8) (s t : State) : Prop :=
  let items := s.config.items
  let n := min items.preCount (min s.ring.records.length (s.store.freeEntries - 1))
  let anchor : Record := { seq := s.ring.nextSeq, time := s.time.group, body := .anchor o.cause o.flag }
  let e : Episode :=
    { header :=
        { slot := i, number := o.number, role := o.role, originator := o.originator
          anchorTime := s.time.group, originTime := o.originTime, causes := o.causes
          preCount := n, postCount := 0
          snapshot := ((List.finRange 16).filter (fun c : Fin 16 => items.snapshotMask.getLsbD c.val)).map
            (fun c => (c, s.counters[c]))
          endStatus := none
          flags := { gapBefore := s.ctrl.gapMark, timeStepped := false, causesOverflow := o.overflow
                     truncatedPre := decide (s.store.freeEntries - 1 < items.preCount)
                       && decide (s.store.freeEntries - 1 < s.ring.records.length) } }
      records := s.ring.records.drop (s.ring.records.length - n) ++ [anchor] }
  let busy := t.busyByCounts
  t.store.slot i = .filling e ∧ (∀ j, j ≠ i → t.store.slot j = s.store.slot j) ∧
  t.store.freeEntries + n + 1 = s.store.freeEntries ∧
  t.store.order = s.store.order ++ [i] ∧ t.store.selection = s.store.selection ∧
  t.ring = s.ring.put anchor ∧
  (∀ c : Fin 16, t.counters[c] = if items.resetMask.getLsbD c then 0#32 else s.counters[c]) ∧
  t.ctrl.current = some { slot := i, claim := o.claim, floor := o.floor, timer := s.now } ∧
  t = { s with
        store := t.store, ring := t.ring, counters := t.counters, openRises := t.openRises
        ctrl := { s.ctrl with
          current := t.ctrl.current, gapMark := false, ownBusy := busy
          groupBusy := if busy = s.ctrl.ownBusy then s.ctrl.groupBusy else busy || s.peersBusy }
        link := if busy = s.ctrl.ownBusy then s.link else s.requestBeacon.link }

/-- No counter of the reset-on-anchor mask is at another value than 0, or no unit is armed: an opening then offers
the units nothing that they take (R14, R48). -/
def OpensQuietly (s : State) : Prop :=
  (∀ c : Fin 16, s.config.items.resetMask.getLsbD c = true → s.counters[c] = 0#32) ∨ s.units = disarmedUnits

/-- A TRIGGER listed (step 3 of R98). -/
def listTrigger (l : Link) : Link :=
  { l with list := { l.list with trigger := true } }

/-- The message of a peer `a` can come to its end now (R66, R69). -/
def HearsOut (s : State) (a : Address) : Prop :=
  Ready s ∧ s.link.rx = .receiving ∧ s.link.latch ≠ none ∧ s.link.attempt = none ∧
    a ≠ 0#5 ∧ a ≠ s.station.address

/-- The message of a peer `a`, which is not LOST, can come to its end now. -/
def Receives (s : State) (a : Address) : Prop :=
  HearsOut s a ∧ (s.peer a).state ≠ .lost

/-- The state once a message of peer `a` has been judged and its presence taken (R66, R73). -/
def heard (a : Address) (s : State) : State :=
  { s with
    link := { s.link with latch := none }
    peers := { s.peers with
      table := s.peers.table.set a.toNat { s.peer a with state := .present, lastHeard := some s.now } a.isLt } }

/-- The numbers skipped between the highest number `h` and a TRIGGER's number `x` (R94). -/
def skipped (h x : Word32) : Nat :=
  x.toNat - h.toNat - 1

/-- The state after a TRIGGER has raised the highest number and written its GAP and REMOTE-TRIGGER records, with no
episode open (steps 3 to 5 of R103). -/
def numbered (m : TriggerMessage) (f : Option RemoteFlag) (s : State) : State :=
  { s with
    ctrl := { s.ctrl with
      highest := if s.ctrl.highest < m.number then m.number else s.ctrl.highest
      gapMark := s.ctrl.gapMark || decide (skipped s.ctrl.highest m.number ≠ 0) }
    ring := logged s.time.group
      ((if skipped s.ctrl.highest m.number = 0 then []
          else [.gap (BitVec.ofNat 32 (min (skipped s.ctrl.highest m.number) 4294967294))])
        ++ [.remoteTrigger m.sender m.number f]) s.ring }

/-- The state after a CLEAR COUNTERS of this mask, before its offer is taken (R12). -/
def cleared (mask : Mask) (s : State) : State :=
  { s with counters := vecOf 16 (fun c => if mask.getLsbD c = true then 0#32 else s.counters[c]) }

/-- The response to a SOFTWARE TRIGGER (R166). -/
def triggerAnswer (d : Decision) (s : State) : Response :=
  { result := .ok, body := .software d s.time.group }

/-- The state after SUPPRESSED records of these causes, where no episode is open (R97, R169). -/
def suppressed (f : SuppressedFlag) (causes : List OwnCause) (s : State) : State :=
  { s with
    ring := logged s.time.group (causes.map (fun c => .suppressed c f)) s.ring
    port := { s.port with attention := flag s .suppressed } }

/-- The open episode's slot after its close, and what else the close sets: no open episode, its TRIGGER
withdrawn, the CLOSED flag (R114). -/
def closed (o : OpenEpisode) (e : Episode) (status : EndStatus) (s : State) : State :=
  { s with
    store := s.store.setSlot o.slot
      (.complete { e with header := { e.header with endStatus := some status } })
    ctrl := { s.ctrl with current := none }
    link := { s.link with
      list := { s.link.list with trigger := false }
      attempt := s.link.attempt.map (fun a => match a.message with
        | .trigger _ => { a with withdrawn := true }
        | .command _ => a
        | .beacon _ => a) }
    port := { s.port with attention := flag s .closed } }

/-- The state after a peer's silence: its entry LOST, PEER-LOST written, the PEER flag, and group busy evaluated anew, with
no episode open and the register not examined (R75). -/
def silenced (a : Address) (s : State) : State :=
  let table := s.peers.table.set a.toNat { s.peer a with
    state := .lost, busy := false, groupHold := false, localHold := false, rollCallMark := false } a.isLt
  { s with
    peers := { s.peers with table := table }
    ring := logged s.time.group [.peerLost a] s.ring
    port := { s.port with attention := flag s .peer }
    ctrl := { s.ctrl with
      groupBusy := s.ctrl.ownBusy || table.toList.any (fun e => e.state == .present && e.busy) } }

/-- The state after slot `i`, which holds `e`, has been released and own BUSY evaluated, the register not examined
(R146, R147). -/
def freed (i : Fin 8) (e : Episode) (s : State) : State :=
  let store : Store :=
    { slots := s.store.slots.set i .free
      freeEntries := s.store.freeEntries + e.records.length
      order := s.store.order.filter (fun j => j != i)
      selection := if s.store.selection.map Prod.fst = some i then none else s.store.selection }
  let busy := ({ s with store := store } : State).busyByCounts
  { s with
    store := store
    ctrl := { s.ctrl with
      ownBusy := busy
      groupBusy := if busy = s.ctrl.ownBusy then s.ctrl.groupBusy else busy || s.peersBusy }
    link := if busy = s.ctrl.ownBusy then s.link else s.requestBeacon.link }

/-- A counter's value stands in the relation of a compare to its limit (the table of R36). -/
def related (k : Compare) (v limit : Word32) : Bool :=
  match k with
  | .eq => decide (v = limit)
  | .ne => decide (v ≠ limit)
  | .lt => decide (v.toNat < limit.toNat)
  | .gt => decide (limit.toNat < v.toNat)

/-- The compare result of a condition against the counters' values; a COUNTER condition alone has one (R36). -/
def compared (c : Condition) (counters : Vector Word32 16) : Option Bool :=
  match c with
  | .counter n k limit => some (related k counters[n] limit)
  | .empty => none
  | .line _ _ => none
  | .remote _ => none

/-- What arming makes of a unit (R31, R37): an enabled one is in WAIT-A with its window timer stopped, its count N, no
remembered time, and the compare results of the counters' values; one that is not enabled is DISABLED. -/
def armedAs (x : UnitSettings) (counters : Vector Word32 16) : TriggerUnit :=
  if x.enable = true then
    .armed { phase := .waitA, remaining := x.count, lastA := none, lastB := none
             compareA := compared x.condA counters, compareB := compared x.condB counters }
  else .disabled

/-- The state at the end of roll call, before the hold mark is handed on: ACTIVE, the units armed (R83). -/
def rollCallEnded (s : State) : State :=
  { s with
    station := { s.station with mode := .active }
    peers := { s.peers with rollCallTimer := none, holdMark := false }
    units := vecOf 4 (fun k => armedAs s.config.items.units[k] s.counters) }

/-- What the sender's entry holds after its BEACON (R73, R74). -/
def beaconEntry (m : BeaconMessage) (now : Nat) : PeerEntry :=
  { state := .present, interval := some m.interval, lastHeard := some now, highest := some m.highest
    busy := m.busy, groupHold := m.groupHold, localHold := m.localHold, rollCallMark := m.rollCall.isSome }

/-- The state after a BEACON that writes nothing: its entry, the hold mark in ROLLCALL, and group busy evaluated anew,
the register not examined (R74, R77, R121). -/
def beaconNoted (m : BeaconMessage) (s : State) : State :=
  let table := s.peers.table.set m.sender.toNat (beaconEntry m s.now) m.sender.isLt
  { s with
    link := { s.link with latch := none }
    peers := { s.peers with
      table := table
      holdMark := s.peers.holdMark || (decide (s.station.mode = .rollCall) && m.groupHold) }
    ctrl := { s.ctrl with
      groupBusy := s.ctrl.ownBusy || table.toList.any (fun e => e.state == .present && e.busy) } }

/-- An OCCUPIED register `h` of these causes is released in the state `c`, into slot `i`: ACTIVE, no episode open,
group busy false; a number, a slot and an entry are to be had (R98, R124). -/
def CanRelease (h : HeldTrigger) (first : OwnCause × Time) (more : List (OwnCause × Time)) (i : Fin 8)
    (c : State) : Prop :=
  c.ctrl.register = some h ∧ h.causes = first :: more ∧ c.station.mode = .active ∧ c.ctrl.current = none ∧
  c.ctrl.groupBusy = false ∧ c.ctrl.highest ≠ 4294967295#32 ∧
  c.store.slot i = .free ∧ (∀ j, j < i → c.store.slot j ≠ .free) ∧ c.store.freeEntries ≠ 0 ∧ OpensQuietly c

/-- The release took the station from `c` to `t`: the register EMPTY, an episode of the next number with the register's
causes, OPEN risen, and its TRIGGER listed (R98, R101, R124, R172). -/
def Released (h : HeldTrigger) (first : OwnCause × Time) (more : List (OwnCause × Time)) (i : Fin 8)
    (c t : State) : Prop :=
  let n := c.ctrl.highest + 1#32
  ∃ u, t = { u with link := listTrigger u.link } ∧ u.openRises = c.openRises + 1 ∧
    Opened
      { role := .originator, number := some n, originator := some c.station.address, originTime := none
        causes := (first :: more).map (fun x => CauseEntry.own x.1 x.2), overflow := h.overflow
        claim := .unannounced, floor := none, cause := .own first.1, flag := .origin } i
      { c with ctrl := { c.ctrl with highest := n, register := none } } u

/-- What entry to MUTE makes of the open episode (R112): an unannounced claim becomes LOCAL, without number and
originator, its number kept as the renumber floor; any other episode and the highest number stay. -/
def ClaimOvertaken (s t : State) : Prop :=
  (∀ o e n, s.ctrl.current = some o → s.store.slot o.slot = .filling e → o.claim = .unannounced →
    e.header.number = some n →
    t.store = s.store.setSlot o.slot (.filling
      { e with header := { e.header with number := none, role := .localRole, originator := none } }) ∧
    t.ctrl.current = some { o with floor := some n }) ∧
  ((∀ o, s.ctrl.current = some o → ∃ e, s.store.slot o.slot = .filling e ∧
      (o.claim ≠ .unannounced ∨ e.header.number = none)) →
    t.store = s.store ∧ t.ctrl.current = s.ctrl.current) ∧
  t.ctrl.highest = s.ctrl.highest

/-- The held trigger register is not released at a close now (R124). -/
def RegisterStays (s : State) : Prop :=
  s.ctrl.register = none ∨ s.station.mode ≠ .active ∨ s.ctrl.groupBusy = true

end Sys2Proof.Machine.Claims

open Sys2Proof.Machine.Claims

/-! ### The queue and the clock -/

/-- The command at the front of the queue is run, with the rest of the queue waiting. -/
def Obligations.StepRunsFrontCommand : Prop :=
  ∀ (c : Instr) (rest : List Instr) (s : State), s.pending = c :: rest →
    step s = exec c { s with pending := rest }

/-- No command stops the station, and none touches the queue. -/
def Obligations.EveryCommandAnswersNextState : Prop :=
  ∀ (c : Instr) (s : State), ∃ t, exec c s = .next t ∧ t.pending = s.pending

namespace Sys2Proof.Machine.Claims

/-- This command is the expiry of a timer that has reached its limit, in a station that takes events (R1, R6, R42, R75,
R78, R83, R115, R125), or of group time at its limit (R87). -/
def Due (s : State) : Instr → Prop
  | .qualificationTimerExpiry n => s.running = true ∧
    ∃ since inForce, (s.line n).phase = .pending since inForce ∧ inForce ≤ s.now - since
  | .vetoQualificationExpiry => s.running = true ∧
    ∃ since inForce, s.lines.veto.phase = .pending since inForce ∧ inForce ≤ s.now - since
  | .windowExpiry k => s.running = true ∧
    ∃ u since, s.units[k] = .armed u ∧ u.phase = .waitB since ∧ s.config.items.units[k].window ≤ s.now - since
  | .postTimeExpiry => s.running = true ∧
    ∃ o, s.ctrl.current = some o ∧ 1000 * s.config.items.postTime ≤ s.now - o.timer
  | .holdLimitExpiry => s.running = true ∧
    ∃ h, s.ctrl.register = some h ∧ 1000 * s.config.items.holdLimit ≤ s.now - h.since
  | .silenceTimerExpiry a => s.running = true ∧ a ≠ 0#5 ∧ (s.peer a).state = .present ∧
    ∃ heardAt, (s.peer a).lastHeard = some heardAt ∧
      1000 * (match (s.peer a).interval with
        | none => 1020
        | some i => 4 * i.toNat) ≤ s.now - heardAt
  | .beaconTimerExpiry => s.running = true ∧ (s.station.mode = .rollCall ∨ s.station.mode = .active) ∧
    ∃ since, s.peers.beaconTimer = some since ∧ 1000 * s.config.items.beaconInterval ≤ s.now - since
  | .rollCallExpiry => s.running = true ∧ s.station.mode = .rollCall ∧
    ∃ since, s.peers.rollCallTimer = some since ∧ 1000 * (2 * s.config.items.beaconInterval) ≤ s.now - since
  | .groupTimeLimit => s.time.group = 281474976710655#48 ∧ s.time.stopped = false
  | _ => False

end Sys2Proof.Machine.Claims

/-- With no command waiting, one microsecond passes (log 1): both clocks count, group time not past its limit, the
expiries then due are queued, each once, in some order, and nothing else changes. Without supply nothing happens. -/
def Obligations.EmptyQueueTicksOneMicrosecond : Prop :=
  ∀ s : State, s.pending = [] →
    (s.power.supply = true →
      ∃ t, step s = .next t ∧
        t.time = { s.time with
          elapsed := s.time.elapsed + 1
          group := if s.time.stopped = true ∨ s.time.group = 281474976710655#48 then s.time.group
                   else s.time.group + 1#48 } ∧
        (∀ c, c ∈ t.pending ↔ Due { s with time := t.time } c) ∧ t.pending.Nodup ∧
        t = { s with time := t.time, pending := t.pending, choice := t.choice }) ∧
    (s.power.supply = false → step s = .next s)

/-- A station that is held in reset or without supply takes no other command (log 6), but for a transaction that completes
at the release of RESET (R152). A transaction that ends while none is taken, and one begun before RESET went low, whenever
it ends, is discarded: CS is high after it, and nothing else changes (R161). -/
def Obligations.HeldStationTakesNoCommand : Prop :=
  (∀ (c : Instr) (s : State), s.running = false → actsWhileHeld c = false →
    ¬ Transacts c → exec c s = .next s) ∧
  (∀ (c : Instr) (s : State), Transacts c → s.port.bus = .cutOff ∨ (s.running = false ∧ ¬ AtRelease s) →
    exec c s = .next { s with port := { s.port with bus := .idle } })

/-- What State.reset holds: the values the spec gives for a POWER restart. -/
def Obligations.ResetHoldsPowerOnValues : Prop :=
  PowerOn State.reset ∧ State.reset.pending = []

/-! ### Invariants of every step -/

/-- The ring's numbering, its cursor and the order of its times are sound after every step, and group time stops only
at its limit (R18 to R20, R27, R87). -/
def Obligations.RingAndTimeKept : Prop :=
  (∀ s t : State, s.ring.Numbered ∧ s.ring.CursorSound → step s = .next t → t.ring.Numbered ∧ t.ring.CursorSound) ∧
  (∀ s t : State, s.ring.Timed s.time.group ∧ TimeSound s → step s = .next t →
     t.ring.Timed t.time.group ∧ TimeSound t)

/-- Group time, local elapsed time and the highest episode number never fall, but for a restart that is a POWER
restart and a loss of supply (R87, R93). -/
def Obligations.ClocksAndNumberNeverFall : Prop :=
  ∀ (c : Instr) (s t : State), (∀ a, c ≠ .powerRestart a) → c ≠ .supplyLoss →
    (∀ a, c = .hardRestart a → s.power.powerOnRelease = false) → exec c s = .next t →
    s.time.group ≤ t.time.group ∧ t.time.elapsed = s.time.elapsed ∧ s.ctrl.highest ≤ t.ctrl.highest

/-- Free record entries and the records held make 1024 after every step (R136). -/
def Obligations.PoolBalanceKept : Prop :=
  ∀ s t : State, s.store.Balanced → step s = .next t → t.store.Balanced

/-- The FILLING slot is the open episode's after every step; no two slots share a number, the highest number bounds them
all, and the open episode's number or floor stands above those of the other slots (R93, R95, R106, R117). -/
def Obligations.OpenSlotAndNumbersKept : Prop :=
  (∀ s t : State, OpenSlotSound s → step s = .next t → OpenSlotSound t) ∧
  (∀ s t : State, OpenSlotSound s → NumbersSound s → step s = .next t → NumbersSound t)

/-- The opening-order list, the selection and the order of every episode's records are sound after every step, and
headers hold 1 to 4 causes and at most 16 snapshot pairs, the register 1 to 4 causes (R117, R139, R141, R143). -/
def Obligations.StoreContentsKept : Prop :=
  ((∀ s t : State, s.store.OrderSound ∧ s.store.SelectionSound → step s = .next t →
      t.store.OrderSound ∧ t.store.SelectionSound) ∧
   (∀ s t : State, s.store.Ordered → step s = .next t → t.store.Ordered)) ∧
  (∀ s t : State, CausesBounded s → step s = .next t → CausesBounded t)

/-- The window is open exactly in CONFIG, the units are disarmed in CONFIG and ROLLCALL, and every offer is taken in the
command that brings it; in CONFIG and MUTE nothing is listed or on the line, at most two GROUP COMMANDs are listed,
and the failure count reaches 16 only in a station that does not send (R32, R48, R59, R65, R155). -/
def Obligations.StationStatesAndListKept : Prop :=
  ∀ s t : State, WindowSound s ∧ DisarmedSound s ∧ OffersTaken s ∧ LinkSound s → step s = .next t →
    WindowSound t ∧ DisarmedSound t ∧ OffersTaken t ∧ LinkSound t

/-- The register is EMPTY under a hold, own BUSY agrees with the counts, and group busy with own BUSY and the peers
(R119, R121, section 7.3). -/
def Obligations.HoldAndBusyKept : Prop :=
  ∀ s t : State, HoldSound s ∧ BusySound s ∧ GroupBusySound s → step s = .next t →
    HoldSound t ∧ BusySound t ∧ GroupBusySound t

/-- Every invariant above holds at reset. -/
def Obligations.InvariantsHoldAtReset : Prop :=
  let s := State.reset
  s.ring.Numbered ∧ s.ring.CursorSound ∧ s.ring.Timed s.time.group ∧ TimeSound s ∧
    s.store.Balanced ∧ s.store.OrderSound ∧ s.store.SelectionSound ∧ s.store.Ordered ∧ OpenSlotSound s ∧
    NumbersSound s ∧ CausesBounded s ∧ WindowSound s ∧ DisarmedSound s ∧ OffersTaken s ∧ LinkSound s ∧
    HoldSound s ∧ BusySound s ∧ GroupBusySound s

/-! ### Supply, RESET and restarts -/

namespace Sys2Proof.Machine.Claims

/-- A POWER restart at these SA pins took the station from `s` to `t` (R5, R6, R9, R151; log 17). -/
def PoweredOn (sa : Address) (s t : State) : Prop :=
  PowerOn t ∧
  t.station.address = sa ∧ t.station.saPins = sa ∧
  (∀ n, t.line n = { pin := (s.line n).pin, level := (s.line n).pin, phase := .steady }) ∧
  t.lines.veto.pin = s.lines.veto.pin ∧ t.lines.veto.level = .low ∧
  (s.lines.veto.pin = .low → t.lines.veto.phase = .steady) ∧
  (s.lines.veto.pin = .high → t.lines.veto.phase = .pending 0 10) ∧
  t.time.elapsed = 0 ∧ t.choice = s.choice ∧ t.openRises = s.openRises ∧
  t.attnPin = .low ∧ t.openPin = .low ∧ t.pending = s.pending

end Sys2Proof.Machine.Claims

/-- POWER_RESTART with RESET high: every piece of state takes its power-on value, the pins keep their levels, each line
starts from the level at its pin, and VETO starts INACTIVE, timed from the restart over 10 µs where its pin is HIGH
(R5, R6, R9, R151). Local elapsed time starts from 0 (log 17), and the model's own fields stay. A station that already
has its supply takes it alike (log 5). Where the supply rises while RESET is low, the station is held, and the release of
RESET is that same POWER restart (R151, R152). -/
def Obligations.PowerRestartSetsEverything : Prop :=
  (∀ (sa : Address) (s : State), s.power.resetPin = .high →
    ∃ t, exec (.powerRestart sa) s = .next t ∧ PoweredOn sa s t) ∧
  (∀ (sa : Address) (s : State), s.power.resetPin = .low →
    ∃ t, exec (.powerRestart sa) s = .next t ∧
      t.power = { supply := true, resetPin := .low, powerOnRelease := true } ∧ t.running = false ∧
      (∀ n, (t.line n).pin = (s.line n).pin) ∧ t.lines.veto.pin = s.lines.veto.pin ∧
      t.attnPin = .high ∧ t.openPin = .low ∧ (∀ k, t.gtx k = true) ∧ (∀ k, t.sdoByte k = 1#8) ∧
      t.choice = s.choice ∧ t.openRises = s.openRises ∧ t.pending = s.pending) ∧
  (∀ (sa : Address) (s : State), s.power.supply = true → s.power.powerOnRelease = true →
    ∃ t, exec (.hardRestart sa) s = .next t ∧ PoweredOn sa s t)

/-- SUPPLY_LOSS leaves a station that takes no event and drives no output (SDO by log 5); RESET_LOW holds it, its assembly
OFF and GTX recessive, every byte at SDO with the code of NONE, and a transaction in progress to be discarded, and
changes nothing else (R50, R71, R151, R152, R161, R171, R172). -/
def Obligations.SupplyLossAndResetHoldTheStation : Prop :=
  (∀ s : State, ∃ t, exec .supplyLoss s = .next t ∧ t.power.supply = false ∧
      t.power.resetPin = s.power.resetPin ∧ t.running = false ∧
      (∀ n, (t.line n).pin = (s.line n).pin) ∧ t.lines.veto.pin = s.lines.veto.pin ∧
      t.attnPin = .high ∧ t.openPin = .low ∧ (∀ k, t.sdo k = none) ∧ t.pending = s.pending) ∧
  (∀ s : State, s.running = true →
    let t : State := { s with
      power := { s.power with resetPin := .low }
      link := { s.link with attempt := none, rx := .off, latch := none }
      port := { s.port with bus := if s.csPin = .low then .cutOff else .idle } }
    exec .resetLow s = .next t ∧ t.running = false ∧ t.attnPin = .high ∧ t.openPin = .low ∧
      (∀ k, t.gtx k = true) ∧ ∀ k, t.sdoByte k = 1#8)

/-- HARD_RESTART after RESET was held low: CONFIG on the defaults, time, numbers and COMPLETE slots kept, the open
episode closed as CUT-BY-RESTART without a CLOSED flag, and a transaction in progress not ended (R118, R149, R152,
R161). -/
def Obligations.HardRestartKeepsTheStore : Prop :=
  ∀ (sa : Address) (s : State), s.power.supply = true → s.power.powerOnRelease = false → OpenSlotSound s →
    ∃ t, exec (.hardRestart sa) s = .next t ∧ Restarted .hard t ∧ OnDefaults t ∧ Kept s t ∧
      t.port.bus = s.port.bus ∧ t.running = true ∧ t.station.address = sa ∧ t.station.saPins = sa ∧
      (∀ n, t.line n = { pin := (s.line n).pin, level := (s.line n).pin, phase := .steady }) ∧
      t.lines.veto.pin = s.lines.veto.pin ∧ t.lines.veto.level = .low ∧
      (s.lines.veto.pin = .low → t.lines.veto.phase = .steady) ∧
      (s.lines.veto.pin = .high → t.lines.veto.phase = .pending s.now 10) ∧
      t.port.attention = flag s .restarted

/-- RESTART outside CONFIG: configuration, lines and bit rate kept as well, the ring new with VETO-ON first where
VETO is ACTIVE, and ROLLCALL or MUTE by the address read; in CONFIG it is refused (R9, R153).
Either way the transaction has ended (R161). -/
def Obligations.SoftRestartKeepsTheConfiguration : Prop :=
  (∀ (sa : Address) (s : State), Listens s → s.station.mode ≠ .config → OpenSlotSound s →
    ∃ t, exec (.restart sa) s = .next t ∧ Restarted .soft t ∧ Kept s t ∧ t.port.bus = .idle ∧
      t.power = s.power ∧ t.config = s.config ∧ t.lines = s.lines ∧
      t.station.address = sa ∧ t.station.saPins = sa ∧
      t.link.rate = s.link.rate ∧ t.link.rx = .waitFree ∧
      t.ring = (if s.lines.veto.level = .high
        then { records := [{ seq := 0#16, time := s.time.group, body := .vetoOn }], nextSeq := 1#16
               cursor := .notStarted }
        else { records := [], nextSeq := 0#16, cursor := .notStarted }) ∧
      (sa ≠ 0#5 → t.station.mode = .rollCall ∧ t.units = disarmedUnits ∧ t.link.list.beacon = .listed ∧
        t.peers.rollCallTimer = some s.now ∧ t.port.attention = flag s .restarted) ∧
      (sa = 0#5 → t.station.mode = .mute .noAddress ∧ t.link.list.beacon = .absent ∧
        t.peers.rollCallTimer = none ∧ t.port.attention = (flag s .restarted) ||| 16#6 ∧
        ∀ k : Fin 4, t.units[k] = armedAs s.config.items.units[k] t.counters)) ∧
  (∀ (sa : Address) (s : State), Listens s → s.station.mode = .config →
    exec (.restart sa) s = .next (s.answer { result := .refusedState, body := .empty }))

/-! ### Lines, counters and VETO -/

namespace Sys2Proof.Machine.Claims

/-- The record setting admits edges of this direction (R3). -/
def admits : RecordSetting → Dir → Bool
  | .never, _ => false
  | .rise, .rise => true
  | .rise, .fall => false
  | .fall, .rise => false
  | .fall, .fall => true
  | .both, _ => true

/-- The state after a qualified edge of line `n` to level `l` that is not vetoed, where no episode is open and no
unit is armed: level, counter, and the EDGE and WRAP records (R3, R10). -/
def edgeTaken (n : Fin 16) (l : Level) (s : State) : State :=
  let d : Dir := match l with
    | .high => .rise
    | .low => .fall
  let counts := s.config.items.countingEdge[n] = d
  let v := if counts then s.counters[n] + 1#32 else s.counters[n]
  let recorded := admits s.config.items.recordSetting[n] d
  { s with
    lines := { s.lines with ev := s.lines.ev.set n { pin := l, level := l, phase := .steady } }
    counters := s.counters.set n v
    ring := logged s.time.group
      ((if recorded = true then [.edge n v d] else [])
        ++ (if counts ∧ s.counters[n] = 4294967295#32 then [.wrap n] else [])) s.ring }

/-- Line `n` is in the veto mask and VETO is ACTIVE (R8). -/
def Vetoed (n : Fin 16) (s : State) : Prop :=
  s.config.items.vetoMask.getLsbD n = true ∧ s.lines.veto.level = .high

end Sys2Proof.Machine.Claims

/-- A qualified edge, at the expiry of the line's timer or at once under a time of 0, is counted and recorded as R3
and R10 say, and nothing else changes; with no episode open and no unit armed. -/
def Obligations.QualifiedEdgeCountedAndRecorded : Prop :=
  ∀ (n : Fin 16) (s : State), Ready s → s.ctrl.current = none → s.units = disarmedUnits → ¬ Vetoed n s →
    (∀ since inForce, (s.line n).phase = .pending since inForce → inForce ≤ s.now - since →
      exec (.qualificationTimerExpiry n) s = .next (edgeTaken n (s.line n).pin s)) ∧
    (∀ l, l ≠ (s.line n).pin → (s.line n).phase = .steady → l ≠ (s.line n).level →
      s.config.items.qualTime[n] = 0 → exec (.linePinChange n l) s = .next (edgeTaken n l s))

/-- Whatever the episode and the units make of a qualified edge, only its own line's input changes, its own counter
counts, and any other counter keeps its value or is cleared by an opening; configuration, peers, time, station state
and received message stay (R3, R10, R14). -/
def Obligations.QualifiedEdgeLeavesTheRest : Prop :=
  ∀ (n : Fin 16) (since inForce : Nat) (s : State), Ready s → ¬ Vetoed n s →
    (s.line n).phase = .pending since inForce → inForce ≤ s.now - since →
    ∃ t, exec (.qualificationTimerExpiry n) s = .next t ∧
      t.lines = (edgeTaken n (s.line n).pin s).lines ∧
      (∀ c : Fin 16, t.counters[c] = (edgeTaken n (s.line n).pin s).counters[c] ∨
        (s.config.items.resetMask.getLsbD c = true ∧ t.counters[c] = 0#32)) ∧
      t.power = s.power ∧ t.station = s.station ∧ t.config = s.config ∧ t.peers = s.peers ∧ t.time = s.time ∧
      t.link.rx = s.link.rx ∧ t.link.latch = s.link.latch ∧ t.link.failures = s.link.failures ∧
      t.link.list.commands = s.link.list.commands ∧ t.port.response = s.port.response ∧
      t.ctrl.localHold = s.ctrl.localHold ∧ t.ctrl.groupHold = s.ctrl.groupHold ∧ OffersTaken t

/-- A pin that leaves the qualified level starts the line's timer with the time then set; one that returns stops it and
leaves no trace; a level the pin already has is no change (R1, R2). A vetoed edge moves the line's qualified level
and leaves every other piece of state as it is (R8). -/
def Obligations.LinePinIsTimedAndVetoed : Prop :=
  (∀ (n : Fin 16) (l : Level) (s : State), Ready s →
     (l = (s.line n).pin → exec (.linePinChange n l) s = .next s) ∧
     (l ≠ (s.line n).pin → (s.line n).phase = .steady → l ≠ (s.line n).level → s.config.items.qualTime[n] ≠ 0 →
       exec (.linePinChange n l) s = .next (s.setLine n
         { pin := l, level := (s.line n).level, phase := .pending s.now s.config.items.qualTime[n] })) ∧
     (∀ since inForce, l ≠ (s.line n).pin → (s.line n).phase = .pending since inForce → l = (s.line n).level →
       exec (.linePinChange n l) s = .next (s.setLine n
         { pin := l, level := (s.line n).level, phase := .steady }))) ∧
  (∀ (n : Fin 16) (s : State), Ready s → Vetoed n s →
     (∀ since inForce, (s.line n).phase = .pending since inForce → inForce ≤ s.now - since →
       exec (.qualificationTimerExpiry n) s =
         .next (s.setLine n { pin := (s.line n).pin, level := (s.line n).pin, phase := .steady })) ∧
     (∀ l, l ≠ (s.line n).pin → (s.line n).phase = .steady → l ≠ (s.line n).level →
       s.config.items.qualTime[n] = 0 →
       exec (.linePinChange n l) s = .next (s.setLine n { pin := l, level := l, phase := .steady })))

/-- VETO is timed over 10 µs, and a change of its qualified level writes VETO-ON or VETO-OFF and nothing else; with no
episode open (R6). -/
def Obligations.VetoIsTimedAndRecorded : Prop :=
  ∀ s : State, Ready s →
    (∀ l, l = s.lines.veto.pin → exec (.vetoPinChange l) s = .next s) ∧
    (∀ l, l ≠ s.lines.veto.pin → s.lines.veto.phase = .steady → l ≠ s.lines.veto.level →
      exec (.vetoPinChange l) s = .next { s with lines := { s.lines with
        veto := { pin := l, level := s.lines.veto.level, phase := .pending s.now 10 } } }) ∧
    (∀ l since inForce, l ≠ s.lines.veto.pin → s.lines.veto.phase = .pending since inForce →
      l = s.lines.veto.level →
      exec (.vetoPinChange l) s = .next { s with lines := { s.lines with
        veto := { pin := l, level := s.lines.veto.level, phase := .steady } } }) ∧
    (∀ since inForce, s.ctrl.current = none → s.lines.veto.phase = .pending since inForce →
      inForce ≤ s.now - since →
      exec .vetoQualificationExpiry s = .next { s with
        lines := { s.lines with
          veto := { pin := s.lines.veto.pin, level := s.lines.veto.pin, phase := .steady } }
        ring := logged s.time.group
          [if s.lines.veto.pin = .high then .vetoOn else .vetoOff] s.ring })

/-! ### The history ring and its reading -/

/-- A write puts its record, of the next sequence number and the group time of the moment, at the newest end; at 256
records the oldest leaves; and the cursor moves as R27 says. -/
def Obligations.WriteEntersTheRing : Prop :=
  ∀ (b : RecordBody) (s : State), s.ring.records.length ≤ 256 →
    let r := s.ring
    let t := writeOne s b
    t.ring.records = (if r.records.length = 256 then r.records.tail else r.records)
      ++ [{ seq := r.nextSeq, time := s.time.group, body := b }] ∧
    t.ring.nextSeq = r.nextSeq + 1#16 ∧
    (r.cursor = .notStarted → t.ring.cursor = .notStarted) ∧
    (∀ q, r.cursor = .lost q → t.ring.cursor = .lost q) ∧
    (∀ q, r.cursor = .waiting q → t.ring.cursor = if q = r.nextSeq then .valid q else .waiting q) ∧
    (∀ q, r.cursor = .valid q → t.ring.cursor =
      if r.records.length = 256 ∧ r.records.head?.map Record.seq = some q then .lost q else .valid q)

/-- READ HISTORY: the cursor at the oldest record, or waiting for the next one; the count, the oldest sequence number
and the next one in the response; nothing else changes (R26). -/
def Obligations.ReadHistoryStartsTheCursor : Prop :=
  ∀ s : State, Listens s →
    (∀ rec rest, s.ring.records = rec :: rest →
      exec .readHistory s = .next ({ s with ring := { s.ring with cursor := .valid rec.seq } }.answer
        { result := .ok, body := .history s.ring.records.length (some rec.seq) s.ring.nextSeq })) ∧
    (s.ring.records = [] →
      exec .readHistory s = .next ({ s with ring := { s.ring with cursor := .waiting s.ring.nextSeq } }.answer
        { result := .ok, body := .history 0 none s.ring.nextSeq }))

/-- READ HISTORY NEXT, row by row of R28. In the VALID row the cursor stands before the records `unread`, and
`older` are those before it. -/
def Obligations.ReadHistoryNextByCursor : Prop :=
  ∀ (n : Byte) (s : State), Listens s →
    (n.toNat = 0 ∨ 16 < n.toNat →
      exec (.readHistoryNext n) s = .next (s.answer { result := .range, body := .empty })) ∧
    (1 ≤ n.toNat → n.toNat ≤ 16 →
      (s.ring.cursor = .notStarted →
        exec (.readHistoryNext n) s = .next (s.answer { result := .noSelection, body := .empty })) ∧
      (∀ q, s.ring.cursor = .waiting q →
        exec (.readHistoryNext n) s = .next (s.answer { result := .atEnd, body := .empty })) ∧
      (∀ q rec rest, s.ring.cursor = .lost q → s.ring.records = rec :: rest →
        exec (.readHistoryNext n) s = .next ({ s with ring := { s.ring with cursor := .valid rec.seq } }.answer
          { result := .ok, body := .skipped })) ∧
      (∀ q older rec unread, s.ring.cursor = .valid q → rec.seq = q →
        s.ring.records = older ++ rec :: unread → (∀ r ∈ older, r.seq ≠ q) →
        exec (.readHistoryNext n) s = .next ({ s with ring := { s.ring with
            cursor := match unread.drop (n.toNat - 1) with
              | [] => .waiting s.ring.nextSeq
              | next :: _ => .valid next.seq } }.answer
          { result := .ok, body := .records (rec :: unread.take (n.toNat - 1)) })))

/-! ### Records of an open episode, closes and the held trigger -/

/-- What a write does to the open slot: TRUNCATED on an empty pool, FULL at the Q-th post-record, and otherwise one
more post-record; every other slot stays (R24, R138). -/
def Obligations.WriteReachesTheOpenSlot : Prop :=
  ∀ (b : RecordBody) (s : State) (o : OpenEpisode) (e : Episode),
    s.ctrl.current = some o → s.store.slot o.slot = .filling e →
    let t := writeOne s b
    let r : Record := { seq := s.ring.nextSeq, time := s.time.group, body := b }
    (∀ j, j ≠ o.slot → t.store.slot j = s.store.slot j) ∧
    (s.store.freeEntries = 0 →
      t.store.slot o.slot = .complete { e with header := { e.header with endStatus := some .truncated } } ∧
      t.store.freeEntries = 0 ∧ t.ctrl.current = none ∧ t.port.attention = flag s .closed) ∧
    (s.store.freeEntries ≠ 0 → e.header.postCount + 1 < s.config.items.postCount →
      t.store.slot o.slot = .filling
        { header := { e.header with postCount := e.header.postCount + 1 }, records := e.records ++ [r] } ∧
      t.store.freeEntries = s.store.freeEntries - 1 ∧ t.ctrl.current = some o ∧
      t.ctrl.ownBusy = t.busyByCounts) ∧
    (s.store.freeEntries ≠ 0 → e.header.postCount + 1 = s.config.items.postCount →
      t.store.slot o.slot = .complete
        { header := { e.header with postCount := e.header.postCount + 1, endStatus := some .full }
          records := e.records ++ [r] } ∧
      t.store.freeEntries = s.store.freeEntries - 1 ∧ t.ctrl.current = none ∧
      t.port.attention = flag s .closed ∧ t.ctrl.ownBusy = t.busyByCounts)

/-- POST_TIME_EXPIRY and CLOSE EPISODE close the open episode, as TIMED and CUT-BY-HOST, and change nothing but what
R114 says, where the held trigger is not released at the close; with no episode open CLOSE EPISODE answers NOT-FOUND,
and in CONFIG REFUSED-STATE (R114 to R116, R167). -/
def Obligations.EpisodeClosesByTimeOrHost : Prop :=
  (∀ (s : State) (o : OpenEpisode) (e : Episode), OffersTaken s → RegisterStays s →
    s.ctrl.current = some o → s.store.slot o.slot = .filling e →
    (s.running = true → 1000 * s.config.items.postTime ≤ s.now - o.timer →
      exec .postTimeExpiry s = .next (closed o e .timed s)) ∧
    (Listens s → s.station.mode ≠ .config →
      exec .closeEpisode s = .next ((closed o e .cutByHost s).answer
        { result := .ok, body := .closed o.slot e.header.number }))) ∧
  (∀ s : State, Listens s → s.station.mode ≠ .config → s.ctrl.current = none →
    exec .closeEpisode s = .next (s.answer { result := .notFound, body := .empty })) ∧
  (∀ s : State, Listens s → s.station.mode = .config →
    exec .closeEpisode s = .next (s.answer { result := .refusedState, body := .empty }))

/-- The held trigger is released, in ACTIVE with no episode open and group busy false, at each examination point of R124:
a close; the fall of group busy, at the silence of a peer, at a BEACON without BUSY, and at a RELEASE EPISODE; and the
end of roll call. The register empties and its causes, in order and with their own fire times, originate an episode;
after the close, OPEN falls and rises anew (R98, R121, R124, R147, R172). That the units are armed before the register
is examined at the end of roll call is the model's reading (log 12). -/
def Obligations.HeldTriggerIsReleased : Prop :=
  ∀ (s : State) (h : HeldTrigger) (first : OwnCause × Time) (more : List (OwnCause × Time)) (i : Fin 8), Ready s →
    (∀ (o : OpenEpisode) (e : Episode), s.ctrl.current = some o → s.store.slot o.slot = .filling e →
      1000 * s.config.items.postTime ≤ s.now - o.timer → CanRelease h first more i (closed o e .timed s) →
      ∃ t, exec .postTimeExpiry s = .next t ∧ Released h first more i (closed o e .timed s) t ∧ t.openPin = .high) ∧
    (∀ (a : Address) (heardAt : Nat), s.ctrl.groupBusy = true → (s.peer a).state = .present →
      (s.peer a).lastHeard = some heardAt →
      1000 * (match (s.peer a).interval with
        | none => 1020
        | some i => 4 * i.toNat) ≤ s.now - heardAt → CanRelease h first more i (silenced a s) →
      ∃ t, exec (.silenceTimerExpiry a) s = .next t ∧ Released h first more i (silenced a s) t) ∧
    (∀ (m : BeaconMessage) (latch : Time), HearsOut s m.sender → (s.peer m.sender).state ≠ .lost →
      s.link.latch = some latch → m.interval ≠ 0#8 → m.time.toNat ≤ latch.toNat + 2 → m.highest ≤ s.ctrl.highest →
      m.rollCall = none → s.ctrl.groupBusy = true → CanRelease h first more i (beaconNoted m s) →
      ∃ t, exec (.beaconReceived m) s = .next t ∧ Released h first more i (beaconNoted m s) t) ∧
    (∀ (j : Fin 8) (e : Episode), s.port.bus ≠ .cutOff → s.store.slot j = .complete e → s.ctrl.groupBusy = true →
      CanRelease h first more i (freed j e s) →
      ∃ t, exec (.releaseEpisode (BitVec.ofNat 8 j.val)) s = .next (t.answer { result := .ok, body := .empty }) ∧
        Released h first more i (freed j e s) t) ∧
    (∀ since : Nat, s.station.mode = .rollCall → s.peers.rollCallTimer = some since →
      1000 * (2 * s.config.items.beaconInterval) ≤ s.now - since → s.peers.holdMark = false →
      CanRelease h first more i (rollCallEnded s) →
      ∃ t, exec .rollCallExpiry s = .next t ∧ Released h first more i (rollCallEnded s) t)

/-- HOLD_LIMIT_EXPIRY empties the register with one SUPPRESSED EXPIRED record for each cause, in order; with no
episode open (R125). -/
def Obligations.HeldTriggerExpires : Prop :=
  ∀ (s : State) (h : HeldTrigger), Ready s → s.ctrl.current = none → s.ctrl.register = some h → h.causes ≠ [] →
    1000 * s.config.items.holdLimit ≤ s.now - h.since →
    exec .holdLimitExpiry s =
      .next (suppressed .expired (h.causes.map Prod.fst) { s with ctrl := { s.ctrl with register := none } })

/-! ### Trigger requests -/

/-- SOFTWARE TRIGGER in ACTIVE with no episode open and group not busy: it originates an episode of the highest number
plus 1, or is suppressed with NUMBERS-EXHAUSTED or NO-SLOT (case 5 of R97, R98). -/
def Obligations.SoftwareTriggerOriginates : Prop :=
  ∀ s : State, Ready s → s.port.bus ≠ .cutOff → s.station.mode = .active →
    s.ctrl.localHold = false → s.ctrl.groupHold = false →
    s.ctrl.current = none → s.ctrl.groupBusy = false →
    (s.ctrl.highest = 4294967295#32 →
      exec .softwareTrigger s = .next ((suppressed .numbersExhausted [.software] s).answer
        (triggerAnswer (.suppressed .numbersExhausted) s))) ∧
    (s.ctrl.highest ≠ 4294967295#32 → (∀ i, s.store.slot i ≠ .free) ∨ s.store.freeEntries = 0 →
      exec .softwareTrigger s = .next ((suppressed .noSlot [.software] s).answer
        (triggerAnswer (.suppressed .noSlot) s))) ∧
    (∀ i, s.ctrl.highest ≠ 4294967295#32 → OpensQuietly s →
      s.store.slot i = .free → (∀ j, j < i → s.store.slot j ≠ .free) → s.store.freeEntries ≠ 0 →
      let n := s.ctrl.highest + 1#32
      ∃ t, exec .softwareTrigger s = .next ({ t with link := listTrigger t.link }.answer
          (triggerAnswer (.opened i (some n)) s)) ∧
        t.openPin = .high ∧ t.openRises = s.openRises + 1 ∧
        Opened
          { role := .originator, number := some n, originator := some s.station.address, originTime := none
            causes := [.own .software s.time.group], overflow := false
            claim := .unannounced, floor := none, cause := .own .software, flag := .origin } i
          { s with ctrl := { s.ctrl with highest := n } } t)

/-- SOFTWARE TRIGGER in MUTE with no episode open: a LOCAL episode without a number, the highest number unchanged and
nothing listed, whatever group busy; or SUPPRESSED with NO-SLOT (R99). -/
def Obligations.SoftwareTriggerOpensLocalInMute : Prop :=
  ∀ s : State, Ready s → s.port.bus ≠ .cutOff → s.station.mode.isMute = true →
    s.ctrl.localHold = false → s.ctrl.groupHold = false → s.ctrl.current = none →
    ((∀ i, s.store.slot i ≠ .free) ∨ s.store.freeEntries = 0 →
      exec .softwareTrigger s = .next ((suppressed .noSlot [.software] s).answer
        (triggerAnswer (.suppressed .noSlot) s))) ∧
    (∀ i, OpensQuietly s → s.store.slot i = .free → (∀ j, j < i → s.store.slot j ≠ .free) →
      s.store.freeEntries ≠ 0 →
      ∃ t, exec .softwareTrigger s = .next (t.answer (triggerAnswer (.opened i none) s)) ∧
        t.openPin = .high ∧ t.openRises = s.openRises + 1 ∧
        Opened
          { role := .localRole, number := none, originator := none, originTime := none
            causes := [.own .software s.time.group], overflow := false, claim := .unannounced
            floor := if s.ctrl.highest = 4294967295#32 then none else some (s.ctrl.highest + 1#32)
            cause := .own .software, flag := .localOpening } i s t)

/-- SOFTWARE TRIGGER where it opens no episode: refused in CONFIG and ROLLCALL, suppressed under a hold, added to the open
episode; and in ACTIVE with group busy suppressed under a hold limit of 0, held, or merged up to four causes (cases 1,
2 and 4 of R97, R100, R122, R123). -/
def Obligations.SoftwareTriggerOpensNothing : Prop :=
  ((∀ s : State, Listens s → s.station.mode = .config ∨ s.station.mode = .rollCall →
     exec .softwareTrigger s = .next (s.answer { result := .refusedState, body := .empty })) ∧
   (∀ s : State, Listens s → OffersTaken s → s.station.mode = .active ∨ s.station.mode.isMute = true →
     s.ctrl.localHold = true ∨ s.ctrl.groupHold = true → s.ctrl.current = none →
     exec .softwareTrigger s =
       .next ((suppressed .hold [.software] s).answer (triggerAnswer (.suppressed .hold) s))) ∧
   (∀ (s : State) (o : OpenEpisode) (e : Episode), Listens s → OffersTaken s →
     s.station.mode = .active ∨ s.station.mode.isMute = true →
     s.ctrl.localHold = false → s.ctrl.groupHold = false →
     s.ctrl.current = some o → s.store.slot o.slot = .filling e →
     (e.header.causes.length < 4 →
       exec .softwareTrigger s = .next ({ s with store := s.store.setSlot o.slot (.filling { e with
           header := { e.header with causes := e.header.causes ++ [CauseEntry.own .software s.time.group] } }) }.answer
         (triggerAnswer (.added o.slot) s))) ∧
     (4 ≤ e.header.causes.length →
       exec .softwareTrigger s = .next ({ s with store := s.store.setSlot o.slot (.filling { e with
           header := { e.header with flags := { e.header.flags with causesOverflow := true } } }) }.answer
         (triggerAnswer (.notAdded o.slot) s))))) ∧
  (∀ s : State, Listens s → OffersTaken s → s.station.mode = .active →
     s.ctrl.localHold = false → s.ctrl.groupHold = false → s.ctrl.current = none → s.ctrl.groupBusy = true →
     (s.config.items.holdLimit = 0 →
       exec .softwareTrigger s = .next ((suppressed .noSlot [.software] s).answer
         (triggerAnswer (.suppressed .noSlot) s))) ∧
     (s.config.items.holdLimit ≠ 0 → s.ctrl.register = none →
       exec .softwareTrigger s = .next ({ s with ctrl := { s.ctrl with
           register := some { causes := [(.software, s.time.group)], since := s.now, overflow := false } } }.answer
         (triggerAnswer .held s))) ∧
     (∀ h, s.config.items.holdLimit ≠ 0 → s.ctrl.register = some h → h.causes.length < 4 →
       exec .softwareTrigger s = .next ({ s with ctrl := { s.ctrl with
           register := some { h with causes := h.causes ++ [(OwnCause.software, s.time.group)] } } }.answer
         (triggerAnswer .merged s))) ∧
     (∀ h, s.config.items.holdLimit ≠ 0 → s.ctrl.register = some h → 4 ≤ h.causes.length →
       exec .softwareTrigger s = .next ({ s with ctrl := { s.ctrl with
           register := some { h with overflow := true } } }.answer (triggerAnswer .notMerged s))))

/-! ### Trigger units -/

namespace Sys2Proof.Machine.Claims

/-- The offer carries this new value of counter `c`: an edge of line `c` that changed it, or a clear that set it to 0
(R34). -/
def Carries (o : Offer) (c : Fin 16) (v : Word32) : Prop :=
  (∃ d, o = .edge c d (some v)) ∨ (∃ changed, o = .cleared changed ∧ c ∈ changed ∧ v = 0#32)

end Sys2Proof.Machine.Claims

/-- ANY: each offer in which A or B occurs is one satisfaction, B counting only where it is not NONE, and no window or
remembered time is used (R40). BOTH: row by row of the table of R41, for an offer taken at the moment `t`. Where a
condition occurs, by its kind: NONE never; LINE in an edge of its line and direction; COUNTER where the offer carries a
new value of its counter, the held result is FALSE and the new one TRUE, the new result then held; REMOTE in a received
TRIGGER of the station it names, 0 naming every one (R35, R36, R38, R39). Under every combinator an offer leaves each
condition the result then held. -/
def Obligations.AnyAndBothOnOffers : Prop :=
  (∀ (held : Option Bool) (o : Offer),
     (Condition.empty.occurs held o = false ∧ Condition.empty.heldAfter held o = held) ∧
     (∀ n e, ((Condition.line n e).occurs held o = true ↔ ∃ d v, o = .edge n d v ∧
         (e = .either ∨ (e = .rise ∧ d = .rise) ∨ (e = .fall ∧ d = .fall))) ∧
       (Condition.line n e).heldAfter held o = held) ∧
     (∀ c k limit, ((Condition.counter c k limit).occurs held o = true ↔
         held = some false ∧ ∃ v, Carries o c v ∧ related k v limit = true) ∧
       (∀ v, Carries o c v → (Condition.counter c k limit).heldAfter held o = some (related k v limit)) ∧
       ((∀ v, ¬ Carries o c v) → (Condition.counter c k limit).heldAfter held o = held)) ∧
     (∀ a, ((Condition.remote a).occurs held o = true ↔ ∃ sender, o = .trigger sender ∧ (a = 0#5 ∨ a = sender)) ∧
       (Condition.remote a).heldAfter held o = held)) ∧
  (∀ (x : UnitSettings) (now : Nat) (o : Offer) (u : ArmedUnit),
     (u.take x now o).1.compareA = x.condA.heldAfter u.compareA o ∧
     (u.take x now o).1.compareB = x.condB.heldAfter u.compareB o) ∧
  (∀ (x : UnitSettings) (now : Nat) (o : Offer) (u : ArmedUnit), x.combinator = .any →
     (u.take x now o).2 =
       (x.condA.occurs u.compareA o || (x.condB != .empty && x.condB.occurs u.compareB o)) ∧
     (u.take x now o).1.phase = u.phase ∧
     (u.take x now o).1.lastA = u.lastA ∧ (u.take x now o).1.lastB = u.lastB ∧
     (u.take x now o).1.remaining = u.remaining) ∧
  (∀ (x : UnitSettings) (t : Nat) (o : Offer) (u : ArmedUnit), x.combinator = .both →
     let a := x.condA.occurs u.compareA o
     let b := x.condB.occurs u.compareB o
     let v := (u.take x t o).1
     let satisfied := (u.take x t o).2
     v.phase = u.phase ∧ v.remaining = u.remaining ∧
     (a = true → b = true → satisfied = true ∧ v.lastA = none ∧ v.lastB = none) ∧
     (∀ m, a = true → b = false → u.lastB = some m → t - m ≤ x.window →
       satisfied = true ∧ v.lastA = none ∧ v.lastB = none) ∧
     (a = true → b = false → (∀ m, u.lastB = some m → x.window < t - m) →
       satisfied = false ∧ v.lastA = some t ∧ v.lastB = u.lastB) ∧
     (∀ m, a = false → b = true → u.lastA = some m → t - m ≤ x.window →
       satisfied = true ∧ v.lastA = none ∧ v.lastB = none) ∧
     (a = false → b = true → (∀ m, u.lastA = some m → x.window < t - m) →
       satisfied = false ∧ v.lastB = some t ∧ v.lastA = u.lastA) ∧
     (a = false → b = false → satisfied = false ∧ v.lastA = u.lastA ∧ v.lastB = u.lastB))

namespace Sys2Proof.Machine.Claims

/-- The state after unit `k` fires under a hold with no episode open: its count reloaded, its FIRE record, and its
request suppressed (R45, R46, R97). -/
def firedUnderHold (k : Fin 4) (u : ArmedUnit) (s : State) : State :=
  let n := s.config.items.units[k].count
  { s with
    units := s.units.set k (.armed { u with remaining := n })
    ring := logged s.time.group [.fire k n, .suppressed (.unit k) .hold] s.ring
    port := { s.port with attention := flag s .suppressed } }

end Sys2Proof.Machine.Claims

/-- SEQUENCE and A-UNLESS-B on an offer, row by row of the tables of R42 and R43; and WINDOW_EXPIRY at W: no satisfaction
under SEQUENCE; one under A-UNLESS-B, which lowers the remaining count and at the last one fires, here under a hold
with no episode open (R42, R43, R45, R46). -/
def Obligations.SequenceAndUnlessByWindow : Prop :=
  (∀ (x : UnitSettings) (t : Nat) (o : Offer) (u : ArmedUnit),
     let a := x.condA.occurs u.compareA o
     let b := x.condB.occurs u.compareB o
     let v := (u.take x t o).1
     let satisfied := (u.take x t o).2
     (x.combinator = .sequence →
       (u.phase = .waitA → a = true → satisfied = false ∧ v.phase = .waitB t) ∧
       (u.phase = .waitA → a = false → satisfied = false ∧ v.phase = .waitA) ∧
       (∀ m, u.phase = .waitB m → b = true → satisfied = true ∧ v.phase = .waitA) ∧
       (∀ m, u.phase = .waitB m → b = false → a = true → satisfied = false ∧ v.phase = .waitB t) ∧
       (∀ m, u.phase = .waitB m → b = false → a = false → satisfied = false ∧ v.phase = .waitB m)) ∧
     (x.combinator = .aUnlessB →
       satisfied = false ∧
       (u.phase = .waitA → a = true → v.phase = .waitB t) ∧
       (u.phase = .waitA → a = false → v.phase = .waitA) ∧
       (∀ m, u.phase = .waitB m → b = true → v.phase = .waitA) ∧
       (∀ m, u.phase = .waitB m → b = false → v.phase = .waitB m))) ∧
  (∀ (k : Fin 4) (u : ArmedUnit) (since : Nat) (s : State), Ready s →
     s.units[k] = .armed u → u.phase = .waitB since → s.config.items.units[k].window ≤ s.now - since →
     (s.config.items.units[k].combinator = .sequence →
       exec (.windowExpiry k) s = .next { s with units := s.units.set k (.armed { u with phase := .waitA }) }) ∧
     (s.config.items.units[k].combinator = .aUnlessB → 1 < u.remaining →
       exec (.windowExpiry k) s = .next { s with
         units := s.units.set k (.armed { u with phase := .waitA, remaining := u.remaining - 1 }) }) ∧
     (s.config.items.units[k].combinator = .aUnlessB → u.remaining = 1 →
       s.ctrl.localHold = true ∨ s.ctrl.groupHold = true → s.ctrl.current = none →
       s.station.mode = .active ∨ s.station.mode.isMute = true →
       exec (.windowExpiry k) s = .next (firedUnderHold k { u with phase := .waitA } s)))

namespace Sys2Proof.Machine.Claims

/-- Unit `k` alone is armed, under a hold and with no episode open, so that a firing opens nothing (R97). -/
def ArmedAlone (k : Fin 4) (u : ArmedUnit) (s : State) : Prop :=
  Ready s ∧ s.units[k] = .armed u ∧ (∀ j, j ≠ k → s.units[j] = .disabled) ∧
  (s.ctrl.localHold = true ∨ s.ctrl.groupHold = true) ∧ s.ctrl.current = none ∧
  (s.station.mode = .active ∨ s.station.mode.isMute = true)

/-- The offer of a qualified edge of line `n` to level `l`: its direction, and the counter's new value where it counts
(R3, R34). -/
def edgeOffer (n : Fin 16) (l : Level) (s : State) : Offer :=
  let d : Dir := match l with
    | .high => .rise
    | .low => .fall
  .edge n d (if s.config.items.countingEdge[n] = d then some (s.counters[n] + 1#32) else none)

/-- The counters of a mask that a clear changes: those not at 0 already (R11). -/
def changedCounters (mask : Mask) (s : State) : List (Fin 16) :=
  (List.finRange 16).filter (fun c => mask.getLsbD c.val && s.counters[c] != 0#32)

end Sys2Proof.Machine.Claims

/-- An armed unit on an offer: without a satisfaction nothing but the unit changes; a satisfaction above the last one
lowers the remaining count alone; the last one fires the unit, here under a hold with no episode open (R45, R46). A
qualified edge, a CLEAR COUNTERS of a peer or of the station, and a received TRIGGER each give the armed unit their
offer after everything else they do, its records among them: the edge with its direction and the counter's new value, the
clear with the counters it changed, the TRIGGER with its sender (R3, R11, R34, R38, R48). -/
def Obligations.SatisfactionsCountDownToFiring : Prop :=
  (∀ (o : Offer) (k : Fin 4) (u : ArmedUnit) (s : State), s.units[k] = .armed u →
     let r := u.take s.config.items.units[k] s.now o
     (r.2 = false → unitTakes o s k = { s with units := s.units.set k (.armed r.1) }) ∧
     (r.2 = true → 1 < u.remaining →
       unitTakes o s k = { s with units := s.units.set k (.armed { r.1 with remaining := u.remaining - 1 }) }) ∧
     (r.2 = true → u.remaining = 1 → s.ctrl.localHold = true ∨ s.ctrl.groupHold = true → s.ctrl.current = none →
       s.station.mode = .active ∨ s.station.mode.isMute = true →
       unitTakes o s k = firedUnderHold k r.1 s)) ∧
  (∀ (k : Fin 4) (u : ArmedUnit) (s : State), ArmedAlone k u s →
     (∀ n, ¬ Vetoed n s →
       (∀ since inForce, (s.line n).phase = .pending since inForce → inForce ≤ s.now - since →
         exec (.qualificationTimerExpiry n) s =
           .next (unitTakes (edgeOffer n (s.line n).pin s) (edgeTaken n (s.line n).pin s) k)) ∧
       (∀ l, l ≠ (s.line n).pin → (s.line n).phase = .steady → l ≠ (s.line n).level →
         s.config.items.qualTime[n] = 0 →
         exec (.linePinChange n l) s = .next (unitTakes (edgeOffer n l s) (edgeTaken n l s) k))) ∧
     (∀ (a : Address) (mask : Mask), Receives s a → changedCounters mask s ≠ [] →
       exec (.clearCountersReceived a mask) s =
         .next (unitTakes (.cleared (changedCounters mask s)) (cleared mask (heard a s)) k)) ∧
     (∀ (m : CommandMessage) (w : Bool), s.link.attempt = some { message := .command m, withdrawn := w } →
       m.command = .clearCounters → changedCounters m.argument s ≠ [] →
       exec .attemptSuccess s = .next (unitTakes (.cleared (changedCounters m.argument s))
         (cleared m.argument { s with link := { s.link with
           attempt := none, latch := none, failures := 0
           list := { s.link.list with commands := s.link.list.commands.tail } } }) k)) ∧
     (∀ m : TriggerMessage, Receives s m.sender → m.number ≠ 0#32 →
       exec (.triggerReceived m) s =
         .next (unitTakes (.trigger m.sender) (numbered m (some .notCaptured) (heard m.sender s)) k)))

/-! ### The group line: attempts -/

/-- LINE_FREE ends the wait for a free line, and a start bit on the free line begins a message and latches the group
time (R53, R66). Bit by bit: the assembly counts consecutive recessive bits, a dominant bit sets the count back to 0,
the eleventh makes the line free, and a dominant bit on the free line is a start bit; a message abandoned at a bit is
discarded, and the count begins with that bit (R66, R67). -/
def Obligations.FreeLineAndStartBit : Prop :=
  (∀ s : State, s.running = true →
    (s.link.attempt = none → s.link.rx = .waitFree ∨ (s.link.rx = .receiving ∧ s.link.latch = none) →
      exec .lineFree s = .next { s with link := { s.link with rx := .idle } }) ∧
    (s.link.rx = .idle → exec .startBitReceived s =
      .next { s with link := { s.link with rx := .receiving, latch := some s.time.group } }) ∧
    (s.link.rx ≠ .idle → exec .startBitReceived s = .next s)) ∧
  (∀ r : LineReader,
    (r.rx = .waitFree →
      (r.read false).1 = { r with recessive := 0 } ∧ (r.read false).2 = [] ∧
      (r.recessive < 10 → (r.read true).1 = { r with recessive := r.recessive + 1 } ∧ (r.read true).2 = []) ∧
      (r.recessive = 10 → (r.read true).1.rx = .idle ∧ (r.read true).2 = [.free])) ∧
    (r.rx = .idle → r.read true = (r, []) ∧
      r.read false = ({ rx := .receiving, recessive := 0, raw := [false] }, [.started])) ∧
    (∀ b, r.rx = .receiving → r.raw ≠ [] → receive (r.raw ++ [b]) = .abandoned →
      r.read b = ({ rx := .waitFree, recessive := if b = true then 1 else 0, raw := [] }, [.ended .abandoned])))

/-- An attempt on the free line sends the head of the list, TRIGGER before GROUP COMMAND before BEACON, its payload
formed from the state of the moment; with nothing listed none starts (R59, R61). -/
def Obligations.AttemptFormsTheHeadEntry : Prop :=
  ∀ s : State, s.running = true → s.station.mode = .rollCall ∨ s.station.mode = .active →
    s.link.rx = .idle → s.link.attempt = none →
    let started (m : Message) : State := { s with link := { s.link with
      rx := .receiving, latch := some s.time.group, attempt := some { message := m, withdrawn := false } } }
    (∀ o e n c f r, s.link.list.trigger = true → s.ctrl.current = some o → s.store.slot o.slot = .filling e →
      e.header.number = some n → e.records[e.header.preCount]? = some r → r.body = .anchor (.own c) f →
      exec .attemptStart s = .next (started (.trigger
        { sender := s.station.address, number := n, originTime := e.header.anchorTime, cause := c }))) ∧
    (∀ c a rest, s.link.list.trigger = false → s.link.list.commands = (c, a) :: rest →
      exec .attemptStart s = .next (started (.command
        { sender := s.station.address, command := c, argument := a }))) ∧
    (s.link.list.trigger = false → s.link.list.commands = [] → s.link.list.beacon ≠ .absent →
      exec .attemptStart s = .next (started (.beacon
        { sender := s.station.address, time := s.time.group, highest := s.ctrl.highest
          interval := BitVec.ofNat 8 s.config.items.beaconInterval
          busy := s.ctrl.ownBusy, groupHold := s.ctrl.groupHold, localHold := s.ctrl.localHold
          rollCall := if s.station.mode = .rollCall then some s.peers.restartCause else none }))) ∧
    (s.link.list = { trigger := false, commands := [], beacon := .absent } → exec .attemptStart s = .next s)

namespace Sys2Proof.Machine.Claims

/-- The list after a lost or failed attempt: the same entries, without the mark to send the BEACON again (R60). -/
def unmarked (l : TransmitList) (m : Message) : TransmitList :=
  match m with
  | .beacon _ => { l with beacon := if l.beacon = .again then .listed else l.beacon }
  | .trigger _ => l
  | .command _ => l

end Sys2Proof.Machine.Claims

/-- A lost attempt keeps its entry and the failure count; the message is still assembled (R57, R60). A failed attempt
keeps its entry and raises the failure count by 1; the 16th makes the station MUTE with LINE-FAULT. A foreign bit in
ROLLCALL is an address conflict: MUTE with CONFLICT, the count unchanged (R58, R63, R65, R81). Either entry to MUTE
turns an unannounced claim LOCAL, with its number as the renumber floor (R112). That the latch of the start bit stays
after a loss or a later bit error is the model's reading (log 22), and that a start bit read recessive leaves the
assembly in IDLE with no latch is read from section 4.8 (log 23). -/
def Obligations.LostAndFailedAttempts : Prop :=
  (∀ (a : Attempt) (s : State), s.running = true → s.link.attempt = some a →
     exec .arbitrationLoss s = .next { s with link := { s.link with
       attempt := none, list := unmarked s.link.list a.message } }) ∧
  (∀ (e : BitError) (a : Attempt) (s : State), Ready s → s.link.attempt = some a →
     s.station.mode = .rollCall ∨ s.station.mode = .active →
     (¬ (e = .foreign ∧ s.station.mode = .rollCall) → s.link.failures < 15 →
       exec (.attemptFailure e) s = .next { s with link := { s.link with
         attempt := none, list := unmarked s.link.list a.message, failures := s.link.failures + 1
         rx := if e = .startBit then .idle else s.link.rx
         latch := if e = .startBit then none else s.link.latch } }) ∧
     (¬ (e = .foreign ∧ s.station.mode = .rollCall) → s.link.failures = 15 →
       ∃ t, exec (.attemptFailure e) s = .next t ∧ t.station = { s.station with mode := .mute .lineFault } ∧
         t.link.failures = 16 ∧ t.link.list = { trigger := false, commands := [], beacon := .absent } ∧
         t.link.attempt = none ∧ t.flagged .muted = true ∧ t.peers.beaconTimer = none ∧
         t.peers.rollCallTimer = none ∧
         (s.station.mode = .active → t.units = s.units ∧ t.ctrl.groupHold = s.ctrl.groupHold) ∧
         (s.station.mode = .active ∨ s.ctrl.register = none → ClaimOvertaken s t) ∧
         t.config = s.config ∧ t.lines = s.lines ∧ t.counters = s.counters ∧ t.time = s.time) ∧
     (e = .foreign → s.station.mode = .rollCall →
       ∃ t, exec (.attemptFailure e) s = .next t ∧ t.station = { s.station with mode := .mute .conflict } ∧
         t.link.failures = s.link.failures ∧
         t.link.list = { trigger := false, commands := [], beacon := .absent } ∧
         t.link.attempt = none ∧ t.flagged .muted = true ∧ t.peers.beaconTimer = none ∧
         t.peers.rollCallTimer = none ∧ t.peers.holdMark = false ∧
         t.ctrl.groupHold = (s.ctrl.groupHold || s.peers.holdMark) ∧
         (∀ k : Fin 4, t.units[k] = armedAs s.config.items.units[k] s.counters) ∧
         (s.ctrl.register = none → ClaimOvertaken s t) ∧
         t.config = s.config ∧ t.lines = s.lines ∧ t.counters = s.counters ∧ t.time = s.time))

namespace Sys2Proof.Machine.Claims

/-- The clear of this mask offers the units nothing that they take (R11, R34). -/
def ClearsQuietly (mask : Mask) (s : State) : Prop :=
  (∀ c : Fin 16, mask.getLsbD c = true → s.counters[c] = 0#32) ∨ s.units = disarmedUnits

/-- The state after the group hold changes to `v`, where the register is EMPTY (R130, R131). -/
def groupHoldTo (v : Bool) (s : State) : State :=
  if s.ctrl.groupHold = v then s
  else
    { s with
      ctrl := { s.ctrl with groupHold := v }
      port := { s.port with attention := flag s .hold }
      link := s.requestBeacon.link }

/-- The state after the group command is applied (R12, R82, R130). -/
def applied (c : GroupCommand) (mask : Mask) (s : State) : State :=
  match c with
  | .clearCounters => cleared mask s
  | .hold => groupHoldTo true s
  | .resume =>
    groupHoldTo false (if s.station.mode = .rollCall then { s with peers := { s.peers with holdMark := false } }
      else s)

end Sys2Proof.Machine.Claims

/-- A successful attempt sets the failure count to 0 and takes its entry from the list. A BEACON starts the beacon timer;
a TRIGGER announces the claim of the open episode, unless it was withdrawn; a GROUP COMMAND is applied here as it is
at its receivers, with the register EMPTY (R62, R64, R111, R130, R133). -/
def Obligations.SuccessfulAttemptsAreReported : Prop :=
  (∀ (m : Message) (w : Bool) (s : State), Ready s → s.link.attempt = some { message := m, withdrawn := w } →
     let sent (l : TransmitList) : Link := { s.link with attempt := none, latch := none, failures := 0, list := l }
     (∀ b, m = .beacon b →
       exec .attemptSuccess s = .next { s with
         link := sent { s.link.list with beacon := if s.link.list.beacon = .again then .listed else .absent }
         peers := { s.peers with beaconTimer := some s.now } }) ∧
     (∀ b, m = .trigger b → w = true → exec .attemptSuccess s = .next { s with link := sent s.link.list }) ∧
     (∀ b o e, m = .trigger b → w = false → s.ctrl.current = some o → o.claim = .unannounced →
       s.store.slot o.slot = .filling e →
       exec .attemptSuccess s = .next { s with
         link := sent { s.link.list with trigger := false }
         ctrl := { s.ctrl with current := some { o with claim := .announced } }
         store := s.store.setSlot o.slot (.filling { e with header := { e.header with
           originator := some s.station.address, originTime := some e.header.anchorTime } }) })) ∧
  (∀ (m : CommandMessage) (w : Bool) (s : State), Ready s →
     s.link.attempt = some { message := .command m, withdrawn := w } →
     s.ctrl.register = none → (m.command = .clearCounters → ClearsQuietly m.argument s) →
     exec .attemptSuccess s = .next (applied m.command m.argument { s with link := { s.link with
       attempt := none, latch := none, failures := 0
       list := { s.link.list with commands := s.link.list.commands.tail } } }))

/-! ### The group line: messages received -/

/-- CLEAR COUNTERS, HOLD and RESUME of a peer: its presence is taken, then the command is applied, with the register
EMPTY. A HOLD that finds it OCCUPIED discards it: one SUPPRESSED HOLD record for each cause, in order of entry, with
no episode open (R12, R70, R126, R130, R131). -/
def Obligations.PeerGroupCommandsAreApplied : Prop :=
  (∀ (a : Address) (mask : Mask) (s : State), Receives s a →
     (ClearsQuietly mask s →
       exec (.clearCountersReceived a mask) s = .next (applied .clearCounters mask (heard a s))) ∧
     (s.ctrl.register = none → exec (.holdReceived a) s = .next (applied .hold 0#16 (heard a s))) ∧
     (exec (.resumeReceived a) s = .next (applied .resume 0#16 (heard a s)))) ∧
  (∀ (a : Address) (h : HeldTrigger) (s : State), Receives s a → s.ctrl.current = none →
     s.ctrl.register = some h → h.causes ≠ [] → s.ctrl.groupHold = false →
     exec (.holdReceived a) s = .next (groupHoldTo true
       (suppressed .hold (h.causes.map Prod.fst)
         { heard a s with ctrl := { s.ctrl with register := none } })))

/-- An abandoned message takes the assembly to WAIT-FREE, an invalid one is discarded, and one of the own address is
discarded in ACTIVE and MUTE; nothing else changes. In ROLLCALL an own-address message is a conflict: MUTE, which
turns an unannounced claim LOCAL (R67 to R69, R81, R112). A message comes to its end only where its start bit was taken and no own attempt runs (log 8). -/
def Obligations.DiscardedMessagesLeaveNoTrace : Prop :=
  ∀ s : State, Ready s → s.link.rx = .receiving → s.link.latch ≠ none →
    (exec .messageAbandon s = .next { s with link := { s.link with rx := .waitFree, latch := none } }) ∧
    (s.link.attempt = none →
      exec .messageInvalid s = .next { s with link := { s.link with latch := none } }) ∧
    (s.link.attempt = none → s.station.address ≠ 0#5 → s.station.mode ≠ .rollCall →
      exec .ownAddressMessage s = .next { s with link := { s.link with latch := none } }) ∧
    (s.link.attempt = none → s.station.address ≠ 0#5 → s.station.mode = .rollCall →
      ∃ t, exec .ownAddressMessage s = .next t ∧ t.station = { s.station with mode := .mute .conflict } ∧
        t.link.failures = s.link.failures ∧ t.link.list = emptyList ∧ t.flagged .muted = true ∧
        t.ctrl.groupHold = (s.ctrl.groupHold || s.peers.holdMark) ∧
        (∀ k : Fin 4, t.units[k] = armedAs s.config.items.units[k] s.counters) ∧
        (s.ctrl.register = none → ClaimOvertaken s t) ∧
        t.config = s.config ∧ t.lines = s.lines ∧ t.counters = s.counters ∧ t.time = s.time)

namespace Sys2Proof.Machine.Claims

/-- The FOLLOWER of a TRIGGER, with the causes of the register after its own (R102, R108, R127). -/
def follower (m : TriggerMessage) (register : Option HeldTrigger) : Opening :=
  let held := match register with
    | none => []
    | some h => h.causes.map (fun c => CauseEntry.own c.1 c.2)
  let all := CauseEntry.remote m.sender m.cause m.originTime :: held
  { role := .follower, number := some m.number, originator := some m.sender, originTime := some m.originTime
    causes := all.take 4
    overflow := decide (4 < all.length) || match register with
      | none => false
      | some h => h.overflow
    claim := .learned, floor := none, cause := .remote, flag := .follow }

end Sys2Proof.Machine.Claims

/-- A TRIGGER with no episode open. Above the highest number and under no hold it is followed: the highest number, the
records, and a FOLLOWER that takes the register's causes; or NOT-CAPTURED where no slot or entry is free. In ROLLCALL
and under a hold it is NOT-CAPTURED, at most the highest number LATE, and presence, highest number and records alone
change. No unit is armed to take its offer (R103, R104, R108, R109). -/
def Obligations.TriggerWithoutEpisode : Prop :=
  (∀ (m : TriggerMessage) (s : State), Receives s m.sender → m.number ≠ 0#32 →
     s.station.mode = .active ∨ s.station.mode.isMute = true →
     s.ctrl.localHold = false → s.ctrl.groupHold = false → s.ctrl.current = none → s.units = disarmedUnits →
     s.ctrl.highest < m.number →
     (∀ i, s.store.slot i = .free → (∀ j, j < i → s.store.slot j ≠ .free) → s.store.freeEntries ≠ 0 →
       ∃ t, exec (.triggerReceived m) s = .next t ∧ t.openPin = .high ∧ t.openRises = s.openRises + 1 ∧
         let r := numbered m none (heard m.sender s)
         Opened (follower m s.ctrl.register) i { r with ctrl := { r.ctrl with register := none } } t) ∧
     ((∀ i, s.store.slot i ≠ .free) ∨ s.store.freeEntries = 0 →
       exec (.triggerReceived m) s = .next (numbered m (some .notCaptured) (heard m.sender s)))) ∧
  (∀ (m : TriggerMessage) (s : State), Receives s m.sender → m.number ≠ 0#32 → s.ctrl.current = none →
     s.units = disarmedUnits →
     (s.station.mode = .rollCall ∨ s.ctrl.localHold = true ∨ s.ctrl.groupHold = true →
       exec (.triggerReceived m) s = .next (numbered m (some .notCaptured) (heard m.sender s))) ∧
     (s.station.mode = .active ∨ s.station.mode.isMute = true → s.ctrl.localHold = false →
       s.ctrl.groupHold = false → m.number ≤ s.ctrl.highest →
       exec (.triggerReceived m) s = .next (numbered m (some .late) (heard m.sender s))))

namespace Sys2Proof.Machine.Claims

/-- A header with one more cause, or CAUSES-OVERFLOW where it holds four (R100). -/
def withCause (c : CauseEntry) (h : Header) : Header :=
  if h.causes.length < 4 then { h with causes := h.causes ++ [c] }
  else { h with flags := { h.flags with causesOverflow := true } }

/-- The open episode after one more post-record (R138). -/
def withRecord (r : Record) (e : Episode) : Episode :=
  { header := { e.header with postCount := e.header.postCount + 1 }, records := e.records ++ [r] }

end Sys2Proof.Machine.Claims

/-- A TRIGGER that meets the open episode and lets it run on: joined under its own number, renumbered upward, or STALE;
under a hold and in ROLLCALL it is NOT-CAPTURED, whatever the episode holds, and a TRIGGER listed stays listed (R109).
The episode's slot, claim and number, and the REMOTE-TRIGGER record appended to it, are as R104 to R106 say; the
pool has room, the post count stays below Q, and no number is skipped. -/
def Obligations.TriggerMeetsTheOpenEpisode : Prop :=
  ∀ (m : TriggerMessage) (s : State) (o : OpenEpisode) (e : Episode), Receives s m.sender → m.number ≠ 0#32 →
    s.units = disarmedUnits → s.ctrl.current = some o → s.store.slot o.slot = .filling e →
    s.store.freeEntries ≠ 0 → e.header.postCount + 1 < s.config.items.postCount →
    m.number.toNat ≤ s.ctrl.highest.toNat + 1 →
    let record (f : Option RemoteFlag) : Record :=
      { seq := s.ring.nextSeq, time := s.time.group, body := .remoteTrigger m.sender m.number f }
    let remote : CauseEntry := .remote m.sender m.cause m.originTime
    let meets (t : State) (f : Option RemoteFlag) (h : Header) (o' : OpenEpisode) : Prop :=
      exec (.triggerReceived m) s = .next t ∧
        t.store.slot o.slot = .filling (withRecord (record f) { e with header := h }) ∧
        (∀ j, j ≠ o.slot → t.store.slot j = s.store.slot j) ∧
        t.ctrl.current = some o' ∧ t.ring = s.ring.put (record f) ∧ t.peers = (heard m.sender s).peers ∧
        t.ctrl.highest = (if s.ctrl.highest < m.number then m.number else s.ctrl.highest)
    ((s.station.mode = .active ∨ s.station.mode.isMute = true) → s.ctrl.localHold = false →
      s.ctrl.groupHold = false →
      (e.header.number = some m.number → o.claim = .unannounced →
        ∃ t, t.link.list.trigger = false ∧ meets t none
          { withCause remote e.header with
            role := .coTriggered, originator := some m.sender, originTime := some m.originTime }
          { o with claim := .learned }) ∧
      (e.header.number = some m.number → o.claim = .announced →
        ∃ t, meets t none
          { withCause remote e.header with
            role := if e.header.role = .originator then .coTriggered else e.header.role } o) ∧
      (e.header.number = some m.number → o.claim = .learned → ∃ t, meets t none (withCause remote e.header) o) ∧
      ((∃ n, e.header.number = some n ∧ n < m.number) ∨
          (∃ f, e.header.number = none ∧ o.floor = some f ∧ f ≤ m.number) → o.claim = .unannounced →
        ∃ t, t.link.list.trigger = false ∧ meets t none
          (withCause remote { e.header with
            number := some m.number, role := .coTriggered, originator := some m.sender
            originTime := some m.originTime })
          { o with claim := .learned, floor := none }) ∧
      ((∃ n, e.header.number = some n ∧ m.number < n) ∨
          (e.header.number = none ∧ ∀ f, o.floor = some f → m.number < f) →
        ∃ t, meets t (some .stale) e.header o)) ∧
    (s.station.mode = .rollCall ∨ s.ctrl.localHold = true ∨ s.ctrl.groupHold = true →
      ∃ t, t.link.list.trigger = s.link.list.trigger ∧ meets t (some .notCaptured) e.header o)

/-- A TRIGGER above the number of an announced or learned episode cuts it as CUT-BY-NEXT; a FOLLOWER opens on the
records just written, OPEN staying high with no new rise, or the TRIGGER is NOT-CAPTURED and no episode is open (R107,
R172). -/
def Obligations.HigherTriggerCutsTheOpenEpisode : Prop :=
  ∀ (m : TriggerMessage) (s : State) (o : OpenEpisode) (e : Episode) (n : Word32),
    Receives s m.sender → m.number ≠ 0#32 → s.station.mode = .active ∨ s.station.mode.isMute = true →
    s.ctrl.localHold = false → s.ctrl.groupHold = false → s.units = disarmedUnits →
    s.ctrl.current = some o → s.store.slot o.slot = .filling e → o.claim ≠ .unannounced →
    e.header.number = some n → n < m.number →
    let c := closed o e .cutByNext (heard m.sender s)
    (∀ i, s.store.slot i = .free → (∀ j, j < i → s.store.slot j ≠ .free) → s.store.freeEntries ≠ 0 →
      ∃ t, exec (.triggerReceived m) s = .next t ∧ t.openPin = .high ∧ t.openRises = s.openRises ∧
        Opened (follower m s.ctrl.register) i
          { numbered m none c with ctrl := { (numbered m none c).ctrl with register := none } } t) ∧
    (RegisterStays s → (∀ i, s.store.slot i ≠ .free) ∨ s.store.freeEntries = 0 →
      exec (.triggerReceived m) s = .next (numbered m (some .notCaptured) c))

/-! ### Peers, roll call and group time -/

namespace Sys2Proof.Machine.Claims

/-- Group time after a beacon of time `t` against the latch `l` (R89). -/
def steppedTo (g l t : Time) : Nat :=
  min (g.toNat + (t.toNat - l.toNat)) (2 ^ 48 - 1)

/-- A step of group time is made: the beacon is more than 2 µs ahead, and the increase is 3 µs or more (R89). -/
def Steps (g l t : Time) : Prop :=
  l.toNat + 2 < t.toNat ∧ 3 ≤ steppedTo g l t - g.toNat

/-- What a beacon request makes of the BEACON place, with this message in attempt (R60). -/
def requested : BeaconEntry → Option Message → BeaconEntry
  | .absent, _ => .listed
  | .listed, some (.beacon _) => .again
  | .listed, _ => .listed
  | .again, _ => .again

end Sys2Proof.Machine.Claims

/-- A BEACON of a peer, taken with no episode open and the register EMPTY: its entry; PEER-BACK where the peer was LOST,
and PEER-RESTART with the beacon's cause where it was not ABSENT, its roll-call mark was clear and the beacon is flagged
ROLLCALL; the step of group time with its TIME-STEP record; the highest number with its GAP record; group busy; and the
hold mark in ROLLCALL; nothing else (R73, R74, R77, R82, R89, R92, R121). -/
def Obligations.BeaconIsTakenWhole : Prop :=
  ∀ (m : BeaconMessage) (latch : Time) (s : State), HearsOut s m.sender → s.link.latch = some latch →
    m.interval ≠ 0#8 → s.ctrl.current = none → s.ctrl.register = none →
    let before := s.peer m.sender
    let back : List RecordBody := if before.state = .lost then [.peerBack m.sender] else []
    let restart : List RecordBody := match m.rollCall with
      | none => []
      | some c => if before.state ≠ .absent ∧ before.rollCallMark = false then [.peerRestart m.sender c] else []
    let gap := m.highest.toNat - s.ctrl.highest.toNat
    let gapRecord : List RecordBody := if gap = 0 then [] else [.gap (BitVec.ofNat 32 (min gap 4294967294))]
    let n := beaconNoted m s
    let ctrl : Controller := { n.ctrl with
      highest := if s.ctrl.highest < m.highest then m.highest else s.ctrl.highest
      gapMark := s.ctrl.gapMark || decide (gap ≠ 0) }
    let ring := logged s.time.group (back ++ restart) s.ring
    (¬ Steps s.time.group latch m.time →
      exec (.beaconReceived m) s = .next { n with ctrl := ctrl, ring := logged s.time.group gapRecord ring }) ∧
    (Steps s.time.group latch m.time →
      let g : Time := BitVec.ofNat 48 (steppedTo s.time.group latch m.time)
      exec (.beaconReceived m) s = .next { n with
        ctrl := ctrl
        time := { s.time with group := g, stopped := s.time.stopped || decide (g = Time.limit) }
        ring := logged g
          (.timeStep m.sender (BitVec.ofNat 48 (steppedTo s.time.group latch m.time - s.time.group.toNat))
            :: gapRecord) ring })

/-- A BEACON at or above the number of an unannounced claim renumbers it to one above the beacon's, the TRIGGER still
listed; at the greatest number the TRIGGER is withdrawn and the claim becomes LOCAL, its former number the renumber
floor; no step of time is made, the pool has room, and the post count stays below Q (R110). That the LOCAL episode's
originator is absent is the model's reading (log 13), and so is that a beacon is followed here whose number is at most
the highest number (log 34). -/
def Obligations.BeaconRenumbersTheClaim : Prop :=
  ∀ (m : BeaconMessage) (latch : Time) (s : State) (o : OpenEpisode) (e : Episode) (n : Word32),
    Receives s m.sender → s.link.latch = some latch → m.interval ≠ 0#8 →
    m.time.toNat ≤ latch.toNat + 2 → m.rollCall = none →
    s.ctrl.current = some o → s.store.slot o.slot = .filling e → o.claim = .unannounced →
    e.header.number = some n → n ≤ m.highest →
    s.store.freeEntries ≠ 0 → e.header.postCount + 1 < s.config.items.postCount →
    let records : List Record := if s.ctrl.highest < m.highest
      then e.records ++ [{ seq := s.ring.nextSeq, time := s.time.group
                           body := .gap (BitVec.ofNat 32 (min (m.highest.toNat - s.ctrl.highest.toNat) 4294967294)) }]
      else e.records
    (m.highest ≠ 4294967295#32 → s.ctrl.highest ≤ m.highest + 1#32 →
      ∃ t e', exec (.beaconReceived m) s = .next t ∧ t.ctrl.current = some o ∧
        t.store.slot o.slot = .filling e' ∧ e'.header.number = some (m.highest + 1#32) ∧
        e'.header.role = e.header.role ∧ e'.header.originator = e.header.originator ∧
        e'.header.causes = e.header.causes ∧ e'.records = records ∧
        t.ctrl.highest = m.highest + 1#32 ∧ t.link.list.trigger = s.link.list.trigger) ∧
    (m.highest = 4294967295#32 →
      ∃ t e', exec (.beaconReceived m) s = .next t ∧ t.ctrl.current = some { o with floor := some n } ∧
        t.store.slot o.slot = .filling e' ∧ e'.header.number = none ∧
        e'.header.role = .localRole ∧ e'.header.originator = none ∧
        e'.header.causes = e.header.causes ∧ e'.records = records ∧
        t.ctrl.highest = 4294967295#32 ∧ t.link.list.trigger = false)

/-- The first message of a LOST peer writes PEER-BACK and makes it PRESENT; here a RESUME that changes no hold (R73).
SILENCE_TIMER_EXPIRY at four announced intervals, or 1,020 ms: the five steps of R75, with the register EMPTY. Both
with no episode open. -/
def Obligations.PeersAreLostAndComeBack : Prop :=
  (∀ (a : Address) (s : State), Ready s → s.link.rx = .receiving → s.link.latch ≠ none → s.link.attempt = none →
     a ≠ 0#5 → a ≠ s.station.address → (s.peer a).state = .lost → s.ctrl.current = none →
     s.ctrl.groupHold = false → s.peers.holdMark = false →
     exec (.resumeReceived a) s = .next { heard a s with ring := logged s.time.group [.peerBack a] s.ring }) ∧
  (∀ (a : Address) (heardAt : Nat) (s : State), Ready s → s.ctrl.current = none → s.ctrl.register = none →
     (s.peer a).state = .present → (s.peer a).lastHeard = some heardAt →
     1000 * (match (s.peer a).interval with
       | none => 1020
       | some i => 4 * i.toNat) ≤ s.now - heardAt →
     exec (.silenceTimerExpiry a) s = .next (silenced a s))

/-- BEACON_TIMER_EXPIRY stops the timer and requests a beacon; GROUP_TIME_LIMIT stops the count of group time, in a
held station too (R78, R87). -/
def Obligations.BeaconTimerAndGroupTimeLimit : Prop :=
  (∀ (since : Nat) (s : State), s.running = true → s.station.mode = .rollCall ∨ s.station.mode = .active →
    s.peers.beaconTimer = some since → 1000 * s.config.items.beaconInterval ≤ s.now - since →
    exec .beaconTimerExpiry s = .next { s with
      peers := { s.peers with beaconTimer := none }
      link := { s.link with list := { s.link.list with
        beacon := requested s.link.list.beacon (s.link.attempt.map Attempt.message) } } }) ∧
  (∀ s : State, s.power.supply = true → s.time.group = Time.limit →
    exec .groupTimeLimit s = .next { s with time := { s.time with stopped := true } })

/-- ROLL_CALL_EXPIRY at 2 × I: ACTIVE with the units armed, and the hold mark handed on; the register, EMPTY here, is not
released (R31, R82, R83). Armed, an enabled unit is in WAIT-A with its count N, no remembered time, and the compare
results of its COUNTER conditions against the counters' values; one not enabled is DISABLED (R31, R37). REJOIN in MUTE with reason LINE-FAULT: the failure count 0 and roll call begun, everything
else kept; refused in any other state or reason (R79, R86). -/
def Obligations.RollCallBeginsAndEnds : Prop :=
  (∀ (since : Nat) (s : State), Ready s → s.station.mode = .rollCall → s.peers.rollCallTimer = some since →
     1000 * (2 * s.config.items.beaconInterval) ≤ s.now - since → s.ctrl.register = none →
     exec .rollCallExpiry s =
       .next (if s.peers.holdMark = true then groupHoldTo true (rollCallEnded s) else rollCallEnded s)) ∧
  (∀ s : State, Listens s →
     (s.station.mode = .mute .lineFault →
       let link : Link := { s.link with failures := 0 }
       exec .rejoin s = .next ({ s with
         station := { s.station with mode := .rollCall }
         units := disarmedUnits
         link := link.requestBeacon
         peers := { s.peers with beaconTimer := none, rollCallTimer := some s.now, holdMark := false } }.answer
           { result := .ok, body := .empty })) ∧
     (s.station.mode ≠ .mute .lineFault →
       exec .rejoin s = .next (s.answer { result := .refusedState, body := .empty })))

/-! ### The bits of the group line -/

/-- A message that R68 lets be valid is read back from its own bits, with every field (R52, R54 to R56, R173, R174). -/
def Obligations.ReceivedFrameIsTheMessageSent : Prop :=
  ∀ m : Message,
    (match m with
      | .trigger t => t.wellFormed = true
      | .beacon b => b.wellFormed = true
      | .command c => c.sender ≠ 0#5 ∧ (c.command ≠ .clearCounters → c.argument = 0#16)) →
    receive m.frame = .valid m

/-- The numbers of bits of a message: without fill bits, and at most with them (R54). The lower arbitration number goes
through: at the first of the seven arbitration bits where two messages differ, the one of the lower number sends the
dominant level, and the line carries it (R50, R57). -/
def Obligations.FrameLengthsAndArbitration : Prop :=
  (∀ m : Message,
     let unfilled := m.filledPart.length + 8
     unfilled = (match m with
       | .trigger _ => 120
       | .command _ => 56
       | .beacon _ => 128) ∧
     unfilled ≤ m.frame.length ∧
     m.frame.length ≤ (match m with
       | .trigger _ => 157
       | .command _ => 71
       | .beacon _ => 167)) ∧
  (∀ m n : Message, m.arbitration < n.arbitration →
     ∃ k, k < 7 ∧ (∀ j, j < k → m.checked[j]? = n.checked[j]?) ∧
       m.checked[k]? = some false ∧ n.checked[k]? = some true ∧ lineLevel [false, true] = false ∧
       readBack true true false = .lostArbitration ∧ readBack true false false = .agrees)

/-! ### The control port -/

namespace Sys2Proof.Machine.Claims

/-- The number of FREE slots. -/
def freeCount (s : State) : Nat :=
  (s.store.slots.toList.filter (fun x => x == .free)).length

end Sys2Proof.Machine.Claims

/-- STATUS and READ COUNTERS report the state of the moment and change nothing but the held response (R15, R164). -/
def Obligations.StatusAndCountersReport : Prop :=
  ∀ s : State, Listens s →
    let report : StatusReport :=
      { mode := s.station.mode, address := s.station.address, restartCause := s.peers.restartCause
        openSlot := s.ctrl.current.map (fun o => o.slot), claim := s.ctrl.current.map (fun o => o.claim)
        occupied := s.ctrl.register.isSome, ownBusy := s.ctrl.ownBusy, groupBusy := s.ctrl.groupBusy
        localHold := s.ctrl.localHold, groupHold := s.ctrl.groupHold
        freeSlots := freeCount s, freeEntries := s.store.freeEntries, highest := s.ctrl.highest
        groupTime := s.time.group, failures := s.link.failures, attention := s.port.attention
        attentionMask := s.config.items.attentionMask }
    let levels := vecOf 16 (fun n => (s.line n).level)
    exec .status s = .next (s.answer { result := .ok, body := .status report }) ∧
    exec .readCounters s = .next (s.answer
      { result := .ok, body := .counters s.counters levels s.lines.veto.level s.time.group })

/-- READ PEER: RANGE, NOT-FOUND for the own address, or the entry. The time since last heard is absent, or at most
65,535 ms and within 1 ms of the time passed (R165; the rounding is free, log 14). -/
def Obligations.ReadPeerReportsTheEntry : Prop :=
  ∀ (a : Byte) (s : State), Listens s →
    (a = 0#8 ∨ 31 < a.toNat →
      exec (.readPeer a) s = .next (s.answer { result := .range, body := .empty })) ∧
    (∀ p : Address, p ≠ 0#5 → a = p.setWidth 8 → p = s.station.address →
      exec (.readPeer a) s = .next (s.answer { result := .notFound, body := .empty })) ∧
    (∀ p : Address, p ≠ 0#5 → a = p.setWidth 8 → p ≠ s.station.address →
      let e := s.peer p
      ∃ r : PeerReport, exec (.readPeer a) s = .next (s.answer { result := .ok, body := .peer r }) ∧
        r = { state := e.state, interval := e.interval, sinceHeard := r.sinceHeard, highest := e.highest
              busy := e.busy, groupHold := e.groupHold, localHold := e.localHold
              rollCallMark := e.rollCallMark } ∧
        (r.sinceHeard = none ↔ e.lastHeard = none) ∧
        (∀ x y, r.sinceHeard = some x → e.lastHeard = some y →
          x ≤ 65535 ∧ (65536000 ≤ s.now - y → x = 65535) ∧
          (s.now - y ≤ 65535000 → 1000 * x < s.now - y + 1000 ∧ s.now - y < 1000 * x + 1000)))

/-- The ranges of the configuration items: which values WRITE CONFIG takes for each (R156, section 9.2.2). A mask
value with bits beyond its channels or flags is out of range (R176, log 16). A condition is judged whole: NONE; LINE with a
line and one of three edges; COUNTER with a counter and one of four compares; REMOTE with a station (R156, R176). -/
def Obligations.ItemRanges : Prop :=
  ∀ (x : Settings) (v : BitVec 56),
    let n := v.toNat / 2 ^ 24
    let takes (i : Item) : Prop := (x.write i v).isSome = true
    let byte (j : Nat) : Nat := v.toNat / 2 ^ (8 * (6 - j)) % 256
    let condition : Prop := byte 0 = 0 ∨ (byte 0 = 1 ∧ byte 1 ≤ 15 ∧ 1 ≤ byte 2 ∧ byte 2 ≤ 3) ∨
      (byte 0 = 2 ∧ byte 1 ≤ 15 ∧ 1 ≤ byte 2 ∧ byte 2 ≤ 4) ∨ (byte 0 = 3 ∧ byte 1 ≤ 31)
    (takes .bitRate ↔ n = 125 ∨ n = 250 ∨ n = 500 ∨ n = 1000) ∧
    (takes .beaconInterval ↔ 1 ≤ n ∧ n ≤ 255) ∧
    (takes .preCount ↔ n ≤ 255) ∧
    (takes .postCount ↔ 1 ≤ n ∧ n ≤ 512) ∧
    (takes .postTime ↔ 1 ≤ n ∧ n ≤ 65535) ∧
    (takes .reserve ↔ n ≤ 1023) ∧
    (takes .holdLimit ↔ n ≤ 65535) ∧
    (takes .snapshotMask ↔ n < 2 ^ 16) ∧ (takes .resetMask ↔ n < 2 ^ 16) ∧ (takes .vetoMask ↔ n < 2 ^ 16) ∧
    (takes .attentionMask ↔ n < 2 ^ 6) ∧
    (∀ j, (takes (.qualTime j) ↔ n ≤ 255) ∧ (takes (.recordSetting j) ↔ n ≤ 3) ∧
      (takes (.countingEdge j) ↔ n = 1 ∨ n = 2)) ∧
    (∀ k, (takes (.enable k) ↔ n ≤ 1) ∧ (takes (.condA k) ↔ condition) ∧ (takes (.condB k) ↔ condition) ∧
      (takes (.combinator k) ↔ n ≤ 3) ∧ (takes (.window k) ↔ 1 ≤ n ∧ n ≤ 16777215) ∧ (takes (.count k) ↔ 1 ≤ n ∧ n ≤ 256))

namespace Sys2Proof.Machine.Claims

/-- Two values agree in the bytes that this item uses: bytes 0 to 3 of a number, a mask or a named value; the kind
and the parameters of a condition (R160, R176). -/
def sameValue (i : Item) (v w : BitVec 56) : Prop :=
  match i with
  | .condA _ => conditionOf v = conditionOf w
  | .condB _ => conditionOf v = conditionOf w
  | _ => v.toNat / 2 ^ 24 = w.toNat / 2 ^ 24

/-- The two bytes of an item's identifier: its code, then its line or unit, 0 for a station item (R176). -/
def identifier : Item → Nat × Nat
  | .bitRate => (1, 0)
  | .beaconInterval => (2, 0)
  | .preCount => (3, 0)
  | .postCount => (4, 0)
  | .postTime => (5, 0)
  | .reserve => (6, 0)
  | .holdLimit => (7, 0)
  | .snapshotMask => (8, 0)
  | .resetMask => (9, 0)
  | .vetoMask => (10, 0)
  | .qualTime n => (11, n.val)
  | .recordSetting n => (12, n.val)
  | .countingEdge n => (13, n.val)
  | .enable k => (14, k.val)
  | .condA k => (15, k.val)
  | .condB k => (16, k.val)
  | .combinator k => (17, k.val)
  | .window k => (18, k.val)
  | .count k => (19, k.val)
  | .attentionMask => (20, 0)

/-- The bytes of a value spell this condition (R176). -/
def Spells (v : BitVec 56) (c : Condition) : Prop :=
  let byte (j : Nat) : Nat := v.toNat / 2 ^ (8 * (6 - j)) % 256
  match c with
  | .empty => byte 0 = 0
  | .line n e => byte 0 = 1 ∧ byte 1 = n.val ∧ byte 2 = (match e with
      | .rise => 1
      | .fall => 2
      | .either => 3)
  | .counter n k limit => byte 0 = 2 ∧ byte 1 = n.val ∧ byte 2 = (match k with
      | .eq => 1
      | .ne => 2
      | .lt => 3
      | .gt => 4) ∧ v.toNat % 2 ^ 32 = limit.toNat
  | .remote a => byte 0 = 3 ∧ byte 1 = a.toNat

/-- The item holds what the bytes of this value say (R176). -/
def HoldsValue (x : Settings) (v : BitVec 56) (i : Item) : Prop :=
  let n := v.toNat / 2 ^ 24
  match i with
  | .bitRate => n = (match x.bitRate with
      | .kbit125 => 125
      | .kbit250 => 250
      | .kbit500 => 500
      | .kbit1000 => 1000)
  | .beaconInterval => x.beaconInterval = n
  | .preCount => x.preCount = n
  | .postCount => x.postCount = n
  | .postTime => x.postTime = n
  | .reserve => x.reserve = n
  | .holdLimit => x.holdLimit = n
  | .snapshotMask => x.snapshotMask.toNat = n
  | .resetMask => x.resetMask.toNat = n
  | .vetoMask => x.vetoMask.toNat = n
  | .qualTime j => x.qualTime[j] = n
  | .recordSetting j => n = (match x.recordSetting[j] with
      | .never => 0
      | .rise => 1
      | .fall => 2
      | .both => 3)
  | .countingEdge j => n = (match x.countingEdge[j] with
      | .rise => 1
      | .fall => 2)
  | .enable k => n = x.units[k].enable.toNat
  | .condA k => Spells v x.units[k].condA
  | .condB k => Spells v x.units[k].condB
  | .combinator k => n = (match x.units[k].combinator with
      | .any => 0
      | .both => 1
      | .sequence => 2
      | .aUnlessB => 3)
  | .window k => x.units[k].window = n
  | .count k => x.units[k].count = n
  | .attentionMask => x.attentionMask.toNat = n

end Sys2Proof.Machine.Claims

/-- WRITE CONFIG and READ CONFIG: CLOSED, RANGE, or the item takes the value, which READ CONFIG then returns, and every
other item keeps its own. Only a write of the reserve level touches more than the items: it evaluates BUSY (R119,
R156, R160). The identifiers are the codes 1 to 20 of R176 with a line, a unit, or 0; any other two bytes name no item,
a line above 15, a unit above 3 and a station item of index other than 0 among them. The item holds what the bytes of
the value say, named values and conditions by their codes (R176). -/
def Obligations.ConfigReadsBackWhatWasWritten : Prop :=
  (∀ (item index : Byte) (i : Item), itemOf item index = some i ↔ identifier i = (item.toNat, index.toNat)) ∧
  (∀ i : Item, itemOf i.code i.index = some i) ∧
  (∀ item index : Byte, itemOf item index = none ↔
    item.toNat = 0 ∨ 20 < item.toNat ∨ ((item.toNat ≤ 10 ∨ item.toNat = 20) ∧ index.toNat ≠ 0) ∨
    (11 ≤ item.toNat ∧ item.toNat ≤ 13 ∧ 15 < index.toNat) ∨
    (14 ≤ item.toNat ∧ item.toNat ≤ 19 ∧ 3 < index.toNat)) ∧
  ∀ (item index : Byte) (v : BitVec 56) (s : State), Listens s →
    (s.config.window = .closed →
      exec (.writeConfig item index v) s = .next (s.answer { result := .closed, body := .empty })) ∧
    (s.config.window = .isOpen → itemOf item index = none →
      exec (.writeConfig item index v) s = .next (s.answer { result := .range, body := .empty })) ∧
    (itemOf item index = none →
      exec (.readConfig item index) s = .next (s.answer { result := .range, body := .empty })) ∧
    (∀ i, itemOf item index = some i →
      (exec (.readConfig item index) s = .next (s.answer
        { result := .ok, body := .config item index (s.config.items.read i) })) ∧
      (s.config.window = .isOpen → s.config.items.write i v = none →
        exec (.writeConfig item index v) s = .next (s.answer { result := .range, body := .empty })) ∧
      (∀ x, s.config.window = .isOpen → s.config.items.write i v = some x →
        HoldsValue x v i ∧ sameValue i (x.read i) v ∧ (∀ j, j ≠ i → x.read j = s.config.items.read j) ∧
        (i ≠ .reserve → exec (.writeConfig item index v) s =
          .next ({ s with config := { s.config with items := x } }.answer { result := .ok, body := .empty })) ∧
        (i = .reserve → s.station.mode = .config → s.ctrl.current = none →
          let c : Configuration := { s.config with items := x }
          let busy := ({ s with config := c } : State).busyByCounts
          exec (.writeConfig item index v) s = .next ({ s with
              config := c
              ctrl := { s.ctrl with
                ownBusy := busy
                groupBusy := if busy = s.ctrl.ownBusy then s.ctrl.groupBusy else busy || s.peersBusy } }.answer
            { result := .ok, body := .empty }))))

/-- CLOSE CONFIG: CLOSED; INVALID with the item of the first check that fails and nothing changed, the checks in order:
of unit 0 (a) condition A and (b) condition B, then of units 1 to 3, then Q, then R; or the window closed and ROLLCALL or
MUTE by the address (R158, R159). -/
def Obligations.CloseConfigChecksAndCloses : Prop :=
  ∀ s : State, Listens s →
    (s.config.window = .closed → exec .closeConfig s = .next (s.answer { result := .closed, body := .empty })) ∧
    (s.config.items.failing = none ↔
      (∀ k : Fin 4, (s.config.items.units[k].enable = true → s.config.items.units[k].condA ≠ .empty) ∧
        (s.config.items.units[k].combinator ≠ .any → s.config.items.units[k].condB ≠ .empty)) ∧
      s.config.items.preCount + 1 + s.config.items.postCount ≤ 1024 ∧
      s.config.items.reserve < 1024 - (s.config.items.preCount + 1)) ∧
    (s.config.window = .isOpen →
      let x := s.config.items
      let passA (k : Fin 4) : Prop := x.units[k].enable = true → x.units[k].condA ≠ .empty
      let passB (k : Fin 4) : Prop := x.units[k].combinator ≠ .any → x.units[k].condB ≠ .empty
      let names (i : Item) : Prop := exec .closeConfig s = .next (s.answer { result := .invalid, body := .invalid i })
      (∀ k, (∀ j, j < k → passA j ∧ passB j) → ¬ passA k → names (.condA k)) ∧
      (∀ k, (∀ j, j < k → passA j ∧ passB j) → passA k → ¬ passB k → names (.condB k)) ∧
      ((∀ k, passA k ∧ passB k) → 1024 < x.preCount + 1 + x.postCount → names .postCount) ∧
      ((∀ k, passA k ∧ passB k) → x.preCount + 1 + x.postCount ≤ 1024 →
        1024 - (x.preCount + 1) ≤ x.reserve → names .reserve)) ∧
    (s.config.window = .isOpen → s.config.items.failing = none → s.ctrl.current = none →
      let link : Link :=
        { list := { trigger := false, commands := [], beacon := .absent }, attempt := none, failures := 0
          rx := .waitFree, latch := none, rate := s.config.items.bitRate }
      (s.station.address ≠ 0#5 →
        exec .closeConfig s = .next ({ s with
          config := { s.config with window := .closed }
          station := { s.station with mode := .rollCall }
          units := disarmedUnits
          link := { link with list := { link.list with beacon := .listed } }
          peers := { s.peers with beaconTimer := none, rollCallTimer := some s.now, holdMark := false } }.answer
            { result := .ok, body := .empty })) ∧
      (s.station.address = 0#5 → s.station.mode = .config →
        exec .closeConfig s = .next ({ s with
          config := { s.config with window := .closed }
          station := { s.station with mode := .mute .noAddress }
          units := vecOf 4 (fun k => armedAs s.config.items.units[k] s.counters)
          link := link
          peers := { s.peers with beaconTimer := none, rollCallTimer := none }
          port := { s.port with attention := flag s .muted } }.answer { result := .ok, body := .empty })))

/-- LIST EPISODES and SELECT EPISODE: the slots in order of opening; and the checks of R143, a selection changed only by
an accepted SELECT. READ HEADER and READ RECORDS on the selection, row by row of R144 and R145 (R142 to R145). -/
def Obligations.EpisodesAreListedAndReadOut : Prop :=
  (∀ s : State, Listens s →
     (∃ entries, exec .listEpisodes s = .next (s.answer
         { result := .ok, body := .episodes (freeCount s) s.store.freeEntries entries }) ∧
       (s.store.OrderSound → entries.map (fun l => l.slot) = s.store.order) ∧
       ∀ l ∈ entries, ∃ e, (s.store.slot l.slot = .filling e ∧ l.complete = false ∧ l.endStatus = none ∨
           s.store.slot l.slot = .complete e ∧ l.complete = true ∧ l.endStatus = e.header.endStatus) ∧
         l.number = e.header.number ∧ l.role = e.header.role ∧ l.held = e.records.length) ∧
     (∀ b : Byte, 7 < b.toNat →
       exec (.selectEpisode b) s = .next (s.answer { result := .range, body := .empty })) ∧
     (∀ i : Fin 8, s.store.slot i = .free →
       exec (.selectEpisode (BitVec.ofNat 8 i.val)) s = .next (s.answer { result := .notFound, body := .empty })) ∧
     (∀ (i : Fin 8) (e : Episode), s.store.slot i = .filling e →
       exec (.selectEpisode (BitVec.ofNat 8 i.val)) s =
         .next (s.answer { result := .notComplete, body := .empty })) ∧
     (∀ (i : Fin 8) (e : Episode), s.store.slot i = .complete e →
       exec (.selectEpisode (BitVec.ofNat 8 i.val)) s =
         .next ({ s with store := { s.store with selection := some (i, 0) } }.answer
           { result := .ok, body := .empty }))) ∧
  (∀ (n : Byte) (s : State), Listens s →
     (n.toNat = 0 ∨ 16 < n.toNat →
       exec (.readRecords n) s = .next (s.answer { result := .range, body := .empty })) ∧
     (s.store.selection = none →
       exec .readHeader s = .next (s.answer { result := .noSelection, body := .empty }) ∧
       (1 ≤ n.toNat → n.toNat ≤ 16 →
         exec (.readRecords n) s = .next (s.answer { result := .noSelection, body := .empty }))) ∧
     (∀ i pos e, s.store.selection = some (i, pos) → s.store.slot i = .complete e →
       exec .readHeader s = .next (s.answer { result := .ok, body := .header e.header e.records.length }) ∧
       (1 ≤ n.toNat → n.toNat ≤ 16 → e.records.length ≤ pos →
         exec (.readRecords n) s = .next (s.answer { result := .atEnd, body := .empty })) ∧
       (1 ≤ n.toNat → n.toNat ≤ 16 → pos < e.records.length →
         let k := min n.toNat (e.records.length - pos)
         exec (.readRecords n) s =
           .next ({ s with store := { s.store with selection := some (i, pos + k) } }.answer
             { result := .ok
               body := .slotRecords pos (e.records.length - (pos + k)) ((e.records.drop pos).take k) }))))

/-- RELEASE EPISODE: the checks of R146; a COMPLETE slot becomes FREE, its records return to the pool, its index leaves
the list, a selection of it is cleared, and own BUSY is evaluated; with the register EMPTY nothing else changes. By the
counts, BUSY is set where no slot is FREE or fewer entries than R are free (R119). -/
def Obligations.ReleaseReturnsTheSlot : Prop :=
  (∀ s : State, s.busyByCounts = true ↔
    (∀ i, s.store.slot i ≠ .free) ∨ s.store.freeEntries < s.config.items.reserve) ∧
  ∀ s : State, Listens s →
    (∀ b : Byte, 7 < b.toNat →
      exec (.releaseEpisode b) s = .next (s.answer { result := .range, body := .empty })) ∧
    (∀ i : Fin 8, s.store.slot i = .free →
      exec (.releaseEpisode (BitVec.ofNat 8 i.val)) s =
        .next (s.answer { result := .notFound, body := .empty })) ∧
    (∀ (i : Fin 8) (e : Episode), s.store.slot i = .filling e →
      exec (.releaseEpisode (BitVec.ofNat 8 i.val)) s =
        .next (s.answer { result := .notComplete, body := .empty })) ∧
    (∀ (i : Fin 8) (e : Episode), OffersTaken s → s.ctrl.register = none → s.store.slot i = .complete e →
      exec (.releaseEpisode (BitVec.ofNat 8 i.val)) s =
        .next ((freed i e s).answer { result := .ok, body := .empty }))

/-- SET LOCAL HOLD: RANGE for another value than 0 and 1; a value already in force changes nothing but the response; and
a change sets the hold, the HOLD flag and the beacon request, with the register EMPTY (R129, R131, R168). SEND GROUP
COMMAND, row by row of the table of R133: a command is listed behind those listed before, and nothing is applied. -/
def Obligations.HoldIsSetAndCommandsAreListed : Prop :=
  (∀ s : State, Listens s →
     (∀ v : Byte, v ≠ 0#8 → v ≠ 1#8 →
       exec (.setLocalHold v) s = .next (s.answer { result := .range, body := .empty })) ∧
     (∀ v : Bool, OffersTaken s → s.ctrl.localHold = v →
       exec (.setLocalHold (if v = true then 1#8 else 0#8)) s =
         .next (s.answer { result := .ok, body := .holds v s.ctrl.groupHold })) ∧
     (∀ v : Bool, OffersTaken s → s.ctrl.localHold ≠ v → s.ctrl.register = none →
       exec (.setLocalHold (if v = true then 1#8 else 0#8)) s = .next ({ s with
           ctrl := { s.ctrl with localHold := v }
           port := { s.port with attention := flag s .hold }
           link := s.requestBeacon.link }.answer { result := .ok, body := .holds v s.ctrl.groupHold }))) ∧
  (∀ (mask : Mask) (s : State), Listens s →
     (∀ code : Byte, code ≠ 1#8 → code ≠ 2#8 → code ≠ 3#8 →
       exec (.sendGroupCommand code mask) s = .next (s.answer { result := .range, body := .empty })) ∧
     (∀ c : GroupCommand,
       (s.station.mode ≠ .active →
         exec (.sendGroupCommand c.code mask) s = .next (s.answer { result := .refusedState, body := .empty })) ∧
       (s.station.mode = .active → 2 ≤ s.link.list.commands.length →
         exec (.sendGroupCommand c.code mask) s = .next (s.answer { result := .queueFull, body := .empty })) ∧
       (s.station.mode = .active → s.link.list.commands.length < 2 →
         exec (.sendGroupCommand c.code mask) s = .next ({ s with link := { s.link with
             list := { s.link.list with commands := s.link.list.commands
               ++ [(c, if c = GroupCommand.clearCounters then mask else 0#16)] } } }.answer
           { result := .ok, body := .empty }))))

/-- ACK ATTENTION clears the flags of its mask and reports those before and after; ATTN follows flags and mask, and
OPEN the open episode (R170 to R172). The flags are bits 0 to 5: CLOSED, SUPPRESSED, PEER, HOLD, MUTED, RESTARTED
(R176). -/
def Obligations.AttentionIsAcknowledgedAndShown : Prop :=
  ([Attention.closed, .suppressed, .peer, .hold, .muted, .restarted].map Attention.index = [0, 1, 2, 3, 4, 5] ∧
    [Attention.closed, .suppressed, .peer, .hold, .muted, .restarted].map Attention.bit =
      [1#6, 2#6, 4#6, 8#6, 16#6, 32#6]) ∧
  (∀ (mask : Byte) (s : State), Listens s →
    ∃ after : BitVec 6, exec (.ackAttention mask) s = .next ({ s with
        port := { s.port with attention := after } }.answer
        { result := .ok, body := .acknowledged s.port.attention after }) ∧
      ∀ b, b < 6 → after.getLsbD b = (s.port.attention.getLsbD b && !mask.getLsbD b)) ∧
  (∀ s : State, s.attnPin = .low ↔
    s.running = true ∧ ∃ f : Attention, s.flagged f = true ∧ s.config.items.attentionMask.getLsbD f.index = true) ∧
  (∀ s : State, s.openPin = .high ↔ s.running = true ∧ s.ctrl.current ≠ none)

namespace Sys2Proof.Machine.Claims

/-- The argument bytes of the commands 1 to 20, in order of code (R176). -/
def needs (code : Nat) : Option Nat :=
  match code with
  | 0 => none
  | n + 1 => [0, 9, 2, 0, 0, 1, 0, 1, 0, 1, 0, 1, 1, 0, 0, 1, 3, 0, 0, 1][n]?

/-- The field of `len` bytes from byte `start` on, as a number, most significant byte first (Chapter 11). -/
def field (bs : List Byte) (start len : Nat) : Nat :=
  natOfBytes ((bs.drop start).take len)

/-- A present value, or 0 (R175, R176). -/
def orZero {α : Type} (f : α → Nat) : Option α → Nat
  | none => 0
  | some x => f x

/-- Kind, source, value and flag code of a record, by kind (R22, R23, R173, R175). -/
def recordFields : RecordBody → Nat × Nat × Option Nat × Nat
  | .edge n v d => (1, n.val, some v.toNat, match d with
      | .rise => 1
      | .fall => 2)
  | .wrap n => (2, n.val, none, 0)
  | .vetoOn => (3, 255, none, 0)
  | .vetoOff => (4, 255, none, 0)
  | .fire k n => (5, k.val, some n, 0)
  | .anchor c f => (6, 255, some (match c with
      | .own (.unit k) => k.val
      | .own .software => 4
      | .remote => 5), match f with
      | .origin => 1
      | .follow => 2
      | .localOpening => 3)
  | .suppressed c f => (7, match c with
      | .unit k => k.val
      | .software => 255, none, match f with
      | .hold => 1
      | .noSlot => 2
      | .expired => 3
      | .numbersExhausted => 4)
  | .remoteTrigger a n f => (8, a.toNat, some n.toNat, match f with
      | none => 0
      | some .stale => 1
      | some .late => 2
      | some .notCaptured => 3)
  | .gap n => (9, 255, some n.toNat, 0)
  | .timeStep a n => (10, a.toNat, some n.toNat, 0)
  | .peerLost a => (11, a.toNat, none, 0)
  | .peerBack a => (12, a.toNat, none, 0)
  | .peerRestart a c => (13, a.toNat, none, match c with
      | .power => 1
      | .hard => 2
      | .soft => 3)

/-- The 17 bytes of a record (R175). -/
def RecordPlaced (r : Record) : Prop :=
  let b := r.bytes
  let f := recordFields r.body
  b.length = 17 ∧ field b 0 2 = r.seq.toNat ∧ field b 2 6 = r.time.toNat ∧ field b 8 1 = f.1 ∧
  field b 9 1 = f.2.1 ∧ field b 10 1 = (if f.2.2.1.isSome = true then 128 else 0) + f.2.2.2 ∧
  field b 11 6 = orZero id f.2.2.1

/-- The 30 bytes of STATUS (R164, R176). -/
def StatusPlaced (r : StatusReport) : Prop :=
  let b := (Body.status r).bytes
  b.length = 30 ∧
  field b 0 1 = (match r.mode with
    | .config => 0
    | .rollCall => 1
    | .active => 2
    | .mute _ => 3) ∧
  field b 1 2 = (match r.mode with
    | .mute .noAddress => 256 + 1
    | .mute .conflict => 256 + 2
    | .mute .lineFault => 256 + 3
    | .config | .rollCall | .active => 0) ∧
  field b 3 1 = r.address.toNat ∧
  field b 4 1 = (match r.restartCause with
    | .power => 1
    | .hard => 2
    | .soft => 3) ∧
  field b 5 2 = orZero (fun i => 256 + i.val) r.openSlot ∧
  field b 7 2 = orZero (fun c => 256 + match c with
    | .unannounced => 1
    | .announced => 2
    | .learned => 3) r.claim ∧
  field b 9 1 = r.occupied.toNat ∧ field b 10 1 = r.ownBusy.toNat ∧ field b 11 1 = r.groupBusy.toNat ∧
  field b 12 1 = r.localHold.toNat ∧ field b 13 1 = r.groupHold.toNat ∧
  field b 14 1 = r.freeSlots ∧ field b 15 2 = r.freeEntries ∧ field b 17 4 = r.highest.toNat ∧
  field b 21 6 = r.groupTime.toNat ∧ field b 27 1 = r.failures ∧ field b 28 1 = r.attention.toNat ∧
  field b 29 1 = r.attentionMask.toNat

/-- The 15 bytes of READ PEER (R165, R176). -/
def PeerPlaced (r : PeerReport) : Prop :=
  let b := (Body.peer r).bytes
  b.length = 15 ∧
  field b 0 1 = (match r.state with
    | .absent => 0
    | .present => 1
    | .lost => 2) ∧
  field b 1 2 = orZero (fun i => 256 + i.toNat) r.interval ∧
  field b 3 3 = orZero (fun t => 65536 + t) r.sinceHeard ∧
  field b 6 5 = orZero (fun n => 4294967296 + n.toNat) r.highest ∧
  field b 11 1 = r.busy.toNat ∧ field b 12 1 = r.groupHold.toNat ∧ field b 13 1 = r.localHold.toNat ∧
  field b 14 1 = r.rollCallMark.toNat

/-- The cause entry from byte `start` on: cause code, station, the station's cause code, fire time (R175). -/
def CausePlaced (b : List Byte) (start : Nat) : Option CauseEntry → Prop
  | none => field b start 9 = 0
  | some (.own c t) => field b start 3 = 65536 * (causeCode c).toNat ∧ field b (start + 3) 6 = t.toNat
  | some (.remote a c t) =>
    field b start 3 = 65536 * 5 + 256 * a.toNat + (causeCode c).toNat ∧ field b (start + 3) 6 = t.toNat

/-- The 145 bytes of a header (R175). -/
def HeaderPlaced (h : Header) (held : Nat) : Prop :=
  let b := (Body.header h held).bytes
  b.length = 145 ∧ field b 0 1 = h.slot.val ∧
  field b 1 1 = h.number.isSome.toNat + 2 * h.originator.isSome.toNat + 4 * h.originTime.isSome.toNat ∧
  field b 2 4 = orZero BitVec.toNat h.number ∧
  field b 6 1 = (match h.role with
    | .originator => 1
    | .coTriggered => 2
    | .follower => 3
    | .localRole => 4) ∧
  field b 7 1 = orZero BitVec.toNat h.originator ∧ field b 8 6 = h.anchorTime.toNat ∧
  field b 14 6 = orZero BitVec.toNat h.originTime ∧ field b 20 1 = h.causes.length ∧
  (∀ k, k < 4 → CausePlaced b (21 + 9 * k) h.causes[k]?) ∧
  field b 57 1 = h.preCount ∧ field b 58 2 = h.postCount ∧ field b 60 1 = h.snapshot.length ∧
  (∀ k, k < 16 → field b (61 + 5 * k) 5 = orZero (fun p => 4294967296 * p.1.val + p.2.toNat) h.snapshot[k]?) ∧
  field b 141 1 = orZero (fun e => match e with
    | .full => 1
    | .timed => 2
    | .cutByNext => 3
    | .cutByHost => 4
    | .cutByRestart => 5
    | .truncated => 6) h.endStatus ∧
  field b 142 1 = h.flags.gapBefore.toNat + 2 * h.flags.timeStepped.toNat + 4 * h.flags.causesOverflow.toNat
    + 8 * h.flags.truncatedPre.toNat ∧
  field b 143 2 = held

/-- The code of a result (R176). -/
def resultCode : Result → Nat
  | .ok => 0
  | .noneYet => 1
  | .short => 2
  | .unknown => 3
  | .refusedState => 4
  | .range => 5
  | .invalid => 6
  | .closed => 7
  | .notFound => 8
  | .notComplete => 9
  | .noSelection => 10
  | .atEnd => 11
  | .queueFull => 12

end Sys2Proof.Machine.Claims

/-- A transaction too short for its command answers SHORT, one that names no command UNKNOWN, with no other effect; the
bytes of each host command spell that command, fewer are a short transaction, and bytes beyond those it needs are
disregarded (R163, R176). The next transaction shifts out the result code, then the response bytes, then bytes of 0, each
most significant bit first, and SDO is undriven while CS is high (R161, R162). A STATUS response, a READ PEER response,
a record and a header have the lengths and field places of R164, R165, R175 and R176; that a bit to which
these assign nothing is 0 is the model's choice (log 35). -/
def Obligations.PortBytesSpellCommandsAndResponses : Prop :=
  (∀ s : State, Listens s →
    exec .shortTransaction s = .next (s.answer { result := .short, body := .empty }) ∧
    exec .unknownCommand s = .next (s.answer { result := .unknown, body := .empty })) ∧
  (∀ (sa : Address) (c : Instr) (bytes : List Byte), transactionOf c = some bytes →
    (∀ a, c = .restart a → a = sa) → commandOfTransaction sa bytes = c) ∧
  (∀ sa : Address, [1#8, 4#8, 5#8, 7#8, 9#8, 11#8, 14#8, 15#8, 18#8, 19#8].map (fun c => commandOfTransaction sa [c]) =
    [.status, .closeConfig, .readCounters, .readHistory, .listEpisodes, .readHeader, .softwareTrigger, .closeEpisode,
     .rejoin, .restart sa]) ∧
  (∀ (sa : Address) (b : Byte),
    [6#8, 8#8, 10#8, 12#8, 13#8, 16#8, 20#8].map (fun c => commandOfTransaction sa [c, b]) =
    [.readPeer b, .readHistoryNext b, .selectEpisode b, .readRecords b, .releaseEpisode b, .setLocalHold b,
     .ackAttention b]) ∧
  (∀ (sa : Address) (a b c : Byte) (v : List Byte), v.length = 7 →
    commandOfTransaction sa [3#8, a, b] = .readConfig a b ∧
    commandOfTransaction sa [17#8, a, b, c] = .sendGroupCommand a (b ++ c) ∧
    commandOfTransaction sa (2#8 :: a :: b :: v) = .writeConfig a b (BitVec.ofNat 56 (natOfBytes v))) ∧
  (∀ sa : Address, commandOfTransaction sa [] = .shortTransaction) ∧
  (∀ (sa : Address) (code : Byte) (args : List Byte),
    (needs code.toNat = none → commandOfTransaction sa (code :: args) = .unknownCommand) ∧
    (∀ k, needs code.toNat = some k → args.length < k →
      commandOfTransaction sa (code :: args) = .shortTransaction) ∧
    (∀ k, needs code.toNat = some k → k ≤ args.length →
      commandOfTransaction sa (code :: args) = commandOfTransaction sa (code :: args.take k))) ∧
  (∀ (s : State) (k : Nat), s.running = true →
    (s.port.bus = .idle → s.sdo k = none) ∧
    (s.port.bus ≠ .idle → s.sdo k = some ((s.sdoByte (k / 8)).getLsbD (7 - k % 8))) ∧
    (s.sdoByte 0).toNat = resultCode s.port.response.result ∧
    (k < s.port.response.body.bytes.length → s.port.response.body.bytes[k]? = some (s.sdoByte (k + 1))) ∧
    (s.port.response.body.bytes.length ≤ k → s.sdoByte (k + 1) = 0#8)) ∧
  (∀ r : StatusReport, r.freeSlots ≤ 8 → r.freeEntries ≤ 1024 → r.failures ≤ 16 → StatusPlaced r) ∧
  (∀ r : PeerReport, (∀ t, r.sinceHeard = some t → t ≤ 65535) → PeerPlaced r) ∧
  (∀ r : Record, (∀ k n, r.body = .fire k n → n ≤ 256) → RecordPlaced r) ∧
  (∀ (h : Header) (held : Nat), h.causes.length ≤ 4 → h.snapshot.length ≤ 16 → h.preCount ≤ 255 →
    h.postCount ≤ 512 → held ≤ 1024 → HeaderPlaced h held)
end

