-- ==== Sys2Proof/Laws/State.lean ====
section
/-! SUPPORT. What each update of State leaves in each field: one lemma per field and update, each true by rfl. -/

namespace Sys2Proof.Machine

/-! ### State.setPower -/

@[simp] theorem State.setPower_power (s : State) (x : Power) : (s.setPower x).power = x := rfl
@[simp] theorem State.setPower_station (s : State) (x : Power) : (s.setPower x).station = s.station := rfl
@[simp] theorem State.setPower_config (s : State) (x : Power) : (s.setPower x).config = s.config := rfl
@[simp] theorem State.setPower_lines (s : State) (x : Power) : (s.setPower x).lines = s.lines := rfl
@[simp] theorem State.setPower_counters (s : State) (x : Power) : (s.setPower x).counters = s.counters := rfl
@[simp] theorem State.setPower_ring (s : State) (x : Power) : (s.setPower x).ring = s.ring := rfl
@[simp] theorem State.setPower_units (s : State) (x : Power) : (s.setPower x).units = s.units := rfl
@[simp] theorem State.setPower_link (s : State) (x : Power) : (s.setPower x).link = s.link := rfl
@[simp] theorem State.setPower_peers (s : State) (x : Power) : (s.setPower x).peers = s.peers := rfl
@[simp] theorem State.setPower_time (s : State) (x : Power) : (s.setPower x).time = s.time := rfl
@[simp] theorem State.setPower_ctrl (s : State) (x : Power) : (s.setPower x).ctrl = s.ctrl := rfl
@[simp] theorem State.setPower_store (s : State) (x : Power) : (s.setPower x).store = s.store := rfl
@[simp] theorem State.setPower_port (s : State) (x : Power) : (s.setPower x).port = s.port := rfl
@[simp] theorem State.setPower_offers (s : State) (x : Power) : (s.setPower x).offers = s.offers := rfl
@[simp] theorem State.setPower_choice (s : State) (x : Power) : (s.setPower x).choice = s.choice := rfl
@[simp] theorem State.setPower_openRises (s : State) (x : Power) : (s.setPower x).openRises = s.openRises := rfl
@[simp] theorem State.setPower_pending (s : State) (x : Power) : (s.setPower x).pending = s.pending := rfl

/-! ### State.setStation -/

@[simp] theorem State.setStation_power (s : State) (x : Station) : (s.setStation x).power = s.power := rfl
@[simp] theorem State.setStation_station (s : State) (x : Station) : (s.setStation x).station = x := rfl
@[simp] theorem State.setStation_config (s : State) (x : Station) : (s.setStation x).config = s.config := rfl
@[simp] theorem State.setStation_lines (s : State) (x : Station) : (s.setStation x).lines = s.lines := rfl
@[simp] theorem State.setStation_counters (s : State) (x : Station) : (s.setStation x).counters = s.counters := rfl
@[simp] theorem State.setStation_ring (s : State) (x : Station) : (s.setStation x).ring = s.ring := rfl
@[simp] theorem State.setStation_units (s : State) (x : Station) : (s.setStation x).units = s.units := rfl
@[simp] theorem State.setStation_link (s : State) (x : Station) : (s.setStation x).link = s.link := rfl
@[simp] theorem State.setStation_peers (s : State) (x : Station) : (s.setStation x).peers = s.peers := rfl
@[simp] theorem State.setStation_time (s : State) (x : Station) : (s.setStation x).time = s.time := rfl
@[simp] theorem State.setStation_ctrl (s : State) (x : Station) : (s.setStation x).ctrl = s.ctrl := rfl
@[simp] theorem State.setStation_store (s : State) (x : Station) : (s.setStation x).store = s.store := rfl
@[simp] theorem State.setStation_port (s : State) (x : Station) : (s.setStation x).port = s.port := rfl
@[simp] theorem State.setStation_offers (s : State) (x : Station) : (s.setStation x).offers = s.offers := rfl
@[simp] theorem State.setStation_choice (s : State) (x : Station) : (s.setStation x).choice = s.choice := rfl
@[simp] theorem State.setStation_openRises (s : State) (x : Station) : (s.setStation x).openRises = s.openRises := rfl
@[simp] theorem State.setStation_pending (s : State) (x : Station) : (s.setStation x).pending = s.pending := rfl

/-! ### State.setConfig -/

@[simp] theorem State.setConfig_power (s : State) (x : Configuration) : (s.setConfig x).power = s.power := rfl
@[simp] theorem State.setConfig_station (s : State) (x : Configuration) : (s.setConfig x).station = s.station := rfl
@[simp] theorem State.setConfig_config (s : State) (x : Configuration) : (s.setConfig x).config = x := rfl
@[simp] theorem State.setConfig_lines (s : State) (x : Configuration) : (s.setConfig x).lines = s.lines := rfl
@[simp] theorem State.setConfig_counters (s : State) (x : Configuration) : (s.setConfig x).counters = s.counters := rfl
@[simp] theorem State.setConfig_ring (s : State) (x : Configuration) : (s.setConfig x).ring = s.ring := rfl
@[simp] theorem State.setConfig_units (s : State) (x : Configuration) : (s.setConfig x).units = s.units := rfl
@[simp] theorem State.setConfig_link (s : State) (x : Configuration) : (s.setConfig x).link = s.link := rfl
@[simp] theorem State.setConfig_peers (s : State) (x : Configuration) : (s.setConfig x).peers = s.peers := rfl
@[simp] theorem State.setConfig_time (s : State) (x : Configuration) : (s.setConfig x).time = s.time := rfl
@[simp] theorem State.setConfig_ctrl (s : State) (x : Configuration) : (s.setConfig x).ctrl = s.ctrl := rfl
@[simp] theorem State.setConfig_store (s : State) (x : Configuration) : (s.setConfig x).store = s.store := rfl
@[simp] theorem State.setConfig_port (s : State) (x : Configuration) : (s.setConfig x).port = s.port := rfl
@[simp] theorem State.setConfig_offers (s : State) (x : Configuration) : (s.setConfig x).offers = s.offers := rfl
@[simp] theorem State.setConfig_choice (s : State) (x : Configuration) : (s.setConfig x).choice = s.choice := rfl
@[simp] theorem State.setConfig_openRises (s : State) (x : Configuration) : (s.setConfig x).openRises = s.openRises := rfl
@[simp] theorem State.setConfig_pending (s : State) (x : Configuration) : (s.setConfig x).pending = s.pending := rfl

/-! ### State.setLines -/

@[simp] theorem State.setLines_power (s : State) (x : Lines) : (s.setLines x).power = s.power := rfl
@[simp] theorem State.setLines_station (s : State) (x : Lines) : (s.setLines x).station = s.station := rfl
@[simp] theorem State.setLines_config (s : State) (x : Lines) : (s.setLines x).config = s.config := rfl
@[simp] theorem State.setLines_lines (s : State) (x : Lines) : (s.setLines x).lines = x := rfl
@[simp] theorem State.setLines_counters (s : State) (x : Lines) : (s.setLines x).counters = s.counters := rfl
@[simp] theorem State.setLines_ring (s : State) (x : Lines) : (s.setLines x).ring = s.ring := rfl
@[simp] theorem State.setLines_units (s : State) (x : Lines) : (s.setLines x).units = s.units := rfl
@[simp] theorem State.setLines_link (s : State) (x : Lines) : (s.setLines x).link = s.link := rfl
@[simp] theorem State.setLines_peers (s : State) (x : Lines) : (s.setLines x).peers = s.peers := rfl
@[simp] theorem State.setLines_time (s : State) (x : Lines) : (s.setLines x).time = s.time := rfl
@[simp] theorem State.setLines_ctrl (s : State) (x : Lines) : (s.setLines x).ctrl = s.ctrl := rfl
@[simp] theorem State.setLines_store (s : State) (x : Lines) : (s.setLines x).store = s.store := rfl
@[simp] theorem State.setLines_port (s : State) (x : Lines) : (s.setLines x).port = s.port := rfl
@[simp] theorem State.setLines_offers (s : State) (x : Lines) : (s.setLines x).offers = s.offers := rfl
@[simp] theorem State.setLines_choice (s : State) (x : Lines) : (s.setLines x).choice = s.choice := rfl
@[simp] theorem State.setLines_openRises (s : State) (x : Lines) : (s.setLines x).openRises = s.openRises := rfl
@[simp] theorem State.setLines_pending (s : State) (x : Lines) : (s.setLines x).pending = s.pending := rfl

/-! ### State.setCounters -/

@[simp] theorem State.setCounters_power (s : State) (x : Vector Word32 16) : (s.setCounters x).power = s.power := rfl
@[simp] theorem State.setCounters_station (s : State) (x : Vector Word32 16) : (s.setCounters x).station = s.station := rfl
@[simp] theorem State.setCounters_config (s : State) (x : Vector Word32 16) : (s.setCounters x).config = s.config := rfl
@[simp] theorem State.setCounters_lines (s : State) (x : Vector Word32 16) : (s.setCounters x).lines = s.lines := rfl
@[simp] theorem State.setCounters_counters (s : State) (x : Vector Word32 16) : (s.setCounters x).counters = x := rfl
@[simp] theorem State.setCounters_ring (s : State) (x : Vector Word32 16) : (s.setCounters x).ring = s.ring := rfl
@[simp] theorem State.setCounters_units (s : State) (x : Vector Word32 16) : (s.setCounters x).units = s.units := rfl
@[simp] theorem State.setCounters_link (s : State) (x : Vector Word32 16) : (s.setCounters x).link = s.link := rfl
@[simp] theorem State.setCounters_peers (s : State) (x : Vector Word32 16) : (s.setCounters x).peers = s.peers := rfl
@[simp] theorem State.setCounters_time (s : State) (x : Vector Word32 16) : (s.setCounters x).time = s.time := rfl
@[simp] theorem State.setCounters_ctrl (s : State) (x : Vector Word32 16) : (s.setCounters x).ctrl = s.ctrl := rfl
@[simp] theorem State.setCounters_store (s : State) (x : Vector Word32 16) : (s.setCounters x).store = s.store := rfl
@[simp] theorem State.setCounters_port (s : State) (x : Vector Word32 16) : (s.setCounters x).port = s.port := rfl
@[simp] theorem State.setCounters_offers (s : State) (x : Vector Word32 16) : (s.setCounters x).offers = s.offers := rfl
@[simp] theorem State.setCounters_choice (s : State) (x : Vector Word32 16) : (s.setCounters x).choice = s.choice := rfl
@[simp] theorem State.setCounters_openRises (s : State) (x : Vector Word32 16) : (s.setCounters x).openRises = s.openRises := rfl
@[simp] theorem State.setCounters_pending (s : State) (x : Vector Word32 16) : (s.setCounters x).pending = s.pending := rfl

/-! ### State.setRing -/

@[simp] theorem State.setRing_power (s : State) (x : Ring) : (s.setRing x).power = s.power := rfl
@[simp] theorem State.setRing_station (s : State) (x : Ring) : (s.setRing x).station = s.station := rfl
@[simp] theorem State.setRing_config (s : State) (x : Ring) : (s.setRing x).config = s.config := rfl
@[simp] theorem State.setRing_lines (s : State) (x : Ring) : (s.setRing x).lines = s.lines := rfl
@[simp] theorem State.setRing_counters (s : State) (x : Ring) : (s.setRing x).counters = s.counters := rfl
@[simp] theorem State.setRing_ring (s : State) (x : Ring) : (s.setRing x).ring = x := rfl
@[simp] theorem State.setRing_units (s : State) (x : Ring) : (s.setRing x).units = s.units := rfl
@[simp] theorem State.setRing_link (s : State) (x : Ring) : (s.setRing x).link = s.link := rfl
@[simp] theorem State.setRing_peers (s : State) (x : Ring) : (s.setRing x).peers = s.peers := rfl
@[simp] theorem State.setRing_time (s : State) (x : Ring) : (s.setRing x).time = s.time := rfl
@[simp] theorem State.setRing_ctrl (s : State) (x : Ring) : (s.setRing x).ctrl = s.ctrl := rfl
@[simp] theorem State.setRing_store (s : State) (x : Ring) : (s.setRing x).store = s.store := rfl
@[simp] theorem State.setRing_port (s : State) (x : Ring) : (s.setRing x).port = s.port := rfl
@[simp] theorem State.setRing_offers (s : State) (x : Ring) : (s.setRing x).offers = s.offers := rfl
@[simp] theorem State.setRing_choice (s : State) (x : Ring) : (s.setRing x).choice = s.choice := rfl
@[simp] theorem State.setRing_openRises (s : State) (x : Ring) : (s.setRing x).openRises = s.openRises := rfl
@[simp] theorem State.setRing_pending (s : State) (x : Ring) : (s.setRing x).pending = s.pending := rfl

/-! ### State.setUnits -/

@[simp] theorem State.setUnits_power (s : State) (x : Vector TriggerUnit 4) : (s.setUnits x).power = s.power := rfl
@[simp] theorem State.setUnits_station (s : State) (x : Vector TriggerUnit 4) : (s.setUnits x).station = s.station := rfl
@[simp] theorem State.setUnits_config (s : State) (x : Vector TriggerUnit 4) : (s.setUnits x).config = s.config := rfl
@[simp] theorem State.setUnits_lines (s : State) (x : Vector TriggerUnit 4) : (s.setUnits x).lines = s.lines := rfl
@[simp] theorem State.setUnits_counters (s : State) (x : Vector TriggerUnit 4) : (s.setUnits x).counters = s.counters := rfl
@[simp] theorem State.setUnits_ring (s : State) (x : Vector TriggerUnit 4) : (s.setUnits x).ring = s.ring := rfl
@[simp] theorem State.setUnits_units (s : State) (x : Vector TriggerUnit 4) : (s.setUnits x).units = x := rfl
@[simp] theorem State.setUnits_link (s : State) (x : Vector TriggerUnit 4) : (s.setUnits x).link = s.link := rfl
@[simp] theorem State.setUnits_peers (s : State) (x : Vector TriggerUnit 4) : (s.setUnits x).peers = s.peers := rfl
@[simp] theorem State.setUnits_time (s : State) (x : Vector TriggerUnit 4) : (s.setUnits x).time = s.time := rfl
@[simp] theorem State.setUnits_ctrl (s : State) (x : Vector TriggerUnit 4) : (s.setUnits x).ctrl = s.ctrl := rfl
@[simp] theorem State.setUnits_store (s : State) (x : Vector TriggerUnit 4) : (s.setUnits x).store = s.store := rfl
@[simp] theorem State.setUnits_port (s : State) (x : Vector TriggerUnit 4) : (s.setUnits x).port = s.port := rfl
@[simp] theorem State.setUnits_offers (s : State) (x : Vector TriggerUnit 4) : (s.setUnits x).offers = s.offers := rfl
@[simp] theorem State.setUnits_choice (s : State) (x : Vector TriggerUnit 4) : (s.setUnits x).choice = s.choice := rfl
@[simp] theorem State.setUnits_openRises (s : State) (x : Vector TriggerUnit 4) : (s.setUnits x).openRises = s.openRises := rfl
@[simp] theorem State.setUnits_pending (s : State) (x : Vector TriggerUnit 4) : (s.setUnits x).pending = s.pending := rfl

/-! ### State.setLink -/

@[simp] theorem State.setLink_power (s : State) (x : Link) : (s.setLink x).power = s.power := rfl
@[simp] theorem State.setLink_station (s : State) (x : Link) : (s.setLink x).station = s.station := rfl
@[simp] theorem State.setLink_config (s : State) (x : Link) : (s.setLink x).config = s.config := rfl
@[simp] theorem State.setLink_lines (s : State) (x : Link) : (s.setLink x).lines = s.lines := rfl
@[simp] theorem State.setLink_counters (s : State) (x : Link) : (s.setLink x).counters = s.counters := rfl
@[simp] theorem State.setLink_ring (s : State) (x : Link) : (s.setLink x).ring = s.ring := rfl
@[simp] theorem State.setLink_units (s : State) (x : Link) : (s.setLink x).units = s.units := rfl
@[simp] theorem State.setLink_link (s : State) (x : Link) : (s.setLink x).link = x := rfl
@[simp] theorem State.setLink_peers (s : State) (x : Link) : (s.setLink x).peers = s.peers := rfl
@[simp] theorem State.setLink_time (s : State) (x : Link) : (s.setLink x).time = s.time := rfl
@[simp] theorem State.setLink_ctrl (s : State) (x : Link) : (s.setLink x).ctrl = s.ctrl := rfl
@[simp] theorem State.setLink_store (s : State) (x : Link) : (s.setLink x).store = s.store := rfl
@[simp] theorem State.setLink_port (s : State) (x : Link) : (s.setLink x).port = s.port := rfl
@[simp] theorem State.setLink_offers (s : State) (x : Link) : (s.setLink x).offers = s.offers := rfl
@[simp] theorem State.setLink_choice (s : State) (x : Link) : (s.setLink x).choice = s.choice := rfl
@[simp] theorem State.setLink_openRises (s : State) (x : Link) : (s.setLink x).openRises = s.openRises := rfl
@[simp] theorem State.setLink_pending (s : State) (x : Link) : (s.setLink x).pending = s.pending := rfl

/-! ### State.setPeers -/

@[simp] theorem State.setPeers_power (s : State) (x : PeerMonitor) : (s.setPeers x).power = s.power := rfl
@[simp] theorem State.setPeers_station (s : State) (x : PeerMonitor) : (s.setPeers x).station = s.station := rfl
@[simp] theorem State.setPeers_config (s : State) (x : PeerMonitor) : (s.setPeers x).config = s.config := rfl
@[simp] theorem State.setPeers_lines (s : State) (x : PeerMonitor) : (s.setPeers x).lines = s.lines := rfl
@[simp] theorem State.setPeers_counters (s : State) (x : PeerMonitor) : (s.setPeers x).counters = s.counters := rfl
@[simp] theorem State.setPeers_ring (s : State) (x : PeerMonitor) : (s.setPeers x).ring = s.ring := rfl
@[simp] theorem State.setPeers_units (s : State) (x : PeerMonitor) : (s.setPeers x).units = s.units := rfl
@[simp] theorem State.setPeers_link (s : State) (x : PeerMonitor) : (s.setPeers x).link = s.link := rfl
@[simp] theorem State.setPeers_peers (s : State) (x : PeerMonitor) : (s.setPeers x).peers = x := rfl
@[simp] theorem State.setPeers_time (s : State) (x : PeerMonitor) : (s.setPeers x).time = s.time := rfl
@[simp] theorem State.setPeers_ctrl (s : State) (x : PeerMonitor) : (s.setPeers x).ctrl = s.ctrl := rfl
@[simp] theorem State.setPeers_store (s : State) (x : PeerMonitor) : (s.setPeers x).store = s.store := rfl
@[simp] theorem State.setPeers_port (s : State) (x : PeerMonitor) : (s.setPeers x).port = s.port := rfl
@[simp] theorem State.setPeers_offers (s : State) (x : PeerMonitor) : (s.setPeers x).offers = s.offers := rfl
@[simp] theorem State.setPeers_choice (s : State) (x : PeerMonitor) : (s.setPeers x).choice = s.choice := rfl
@[simp] theorem State.setPeers_openRises (s : State) (x : PeerMonitor) : (s.setPeers x).openRises = s.openRises := rfl
@[simp] theorem State.setPeers_pending (s : State) (x : PeerMonitor) : (s.setPeers x).pending = s.pending := rfl

/-! ### State.setTime -/

@[simp] theorem State.setTime_power (s : State) (x : TimeBase) : (s.setTime x).power = s.power := rfl
@[simp] theorem State.setTime_station (s : State) (x : TimeBase) : (s.setTime x).station = s.station := rfl
@[simp] theorem State.setTime_config (s : State) (x : TimeBase) : (s.setTime x).config = s.config := rfl
@[simp] theorem State.setTime_lines (s : State) (x : TimeBase) : (s.setTime x).lines = s.lines := rfl
@[simp] theorem State.setTime_counters (s : State) (x : TimeBase) : (s.setTime x).counters = s.counters := rfl
@[simp] theorem State.setTime_ring (s : State) (x : TimeBase) : (s.setTime x).ring = s.ring := rfl
@[simp] theorem State.setTime_units (s : State) (x : TimeBase) : (s.setTime x).units = s.units := rfl
@[simp] theorem State.setTime_link (s : State) (x : TimeBase) : (s.setTime x).link = s.link := rfl
@[simp] theorem State.setTime_peers (s : State) (x : TimeBase) : (s.setTime x).peers = s.peers := rfl
@[simp] theorem State.setTime_time (s : State) (x : TimeBase) : (s.setTime x).time = x := rfl
@[simp] theorem State.setTime_ctrl (s : State) (x : TimeBase) : (s.setTime x).ctrl = s.ctrl := rfl
@[simp] theorem State.setTime_store (s : State) (x : TimeBase) : (s.setTime x).store = s.store := rfl
@[simp] theorem State.setTime_port (s : State) (x : TimeBase) : (s.setTime x).port = s.port := rfl
@[simp] theorem State.setTime_offers (s : State) (x : TimeBase) : (s.setTime x).offers = s.offers := rfl
@[simp] theorem State.setTime_choice (s : State) (x : TimeBase) : (s.setTime x).choice = s.choice := rfl
@[simp] theorem State.setTime_openRises (s : State) (x : TimeBase) : (s.setTime x).openRises = s.openRises := rfl
@[simp] theorem State.setTime_pending (s : State) (x : TimeBase) : (s.setTime x).pending = s.pending := rfl

/-! ### State.setCtrl -/

@[simp] theorem State.setCtrl_power (s : State) (x : Controller) : (s.setCtrl x).power = s.power := rfl
@[simp] theorem State.setCtrl_station (s : State) (x : Controller) : (s.setCtrl x).station = s.station := rfl
@[simp] theorem State.setCtrl_config (s : State) (x : Controller) : (s.setCtrl x).config = s.config := rfl
@[simp] theorem State.setCtrl_lines (s : State) (x : Controller) : (s.setCtrl x).lines = s.lines := rfl
@[simp] theorem State.setCtrl_counters (s : State) (x : Controller) : (s.setCtrl x).counters = s.counters := rfl
@[simp] theorem State.setCtrl_ring (s : State) (x : Controller) : (s.setCtrl x).ring = s.ring := rfl
@[simp] theorem State.setCtrl_units (s : State) (x : Controller) : (s.setCtrl x).units = s.units := rfl
@[simp] theorem State.setCtrl_link (s : State) (x : Controller) : (s.setCtrl x).link = s.link := rfl
@[simp] theorem State.setCtrl_peers (s : State) (x : Controller) : (s.setCtrl x).peers = s.peers := rfl
@[simp] theorem State.setCtrl_time (s : State) (x : Controller) : (s.setCtrl x).time = s.time := rfl
@[simp] theorem State.setCtrl_ctrl (s : State) (x : Controller) : (s.setCtrl x).ctrl = x := rfl
@[simp] theorem State.setCtrl_store (s : State) (x : Controller) : (s.setCtrl x).store = s.store := rfl
@[simp] theorem State.setCtrl_port (s : State) (x : Controller) : (s.setCtrl x).port = s.port := rfl
@[simp] theorem State.setCtrl_offers (s : State) (x : Controller) : (s.setCtrl x).offers = s.offers := rfl
@[simp] theorem State.setCtrl_choice (s : State) (x : Controller) : (s.setCtrl x).choice = s.choice := rfl
@[simp] theorem State.setCtrl_openRises (s : State) (x : Controller) : (s.setCtrl x).openRises = s.openRises := rfl
@[simp] theorem State.setCtrl_pending (s : State) (x : Controller) : (s.setCtrl x).pending = s.pending := rfl

/-! ### State.setStore -/

@[simp] theorem State.setStore_power (s : State) (x : Store) : (s.setStore x).power = s.power := rfl
@[simp] theorem State.setStore_station (s : State) (x : Store) : (s.setStore x).station = s.station := rfl
@[simp] theorem State.setStore_config (s : State) (x : Store) : (s.setStore x).config = s.config := rfl
@[simp] theorem State.setStore_lines (s : State) (x : Store) : (s.setStore x).lines = s.lines := rfl
@[simp] theorem State.setStore_counters (s : State) (x : Store) : (s.setStore x).counters = s.counters := rfl
@[simp] theorem State.setStore_ring (s : State) (x : Store) : (s.setStore x).ring = s.ring := rfl
@[simp] theorem State.setStore_units (s : State) (x : Store) : (s.setStore x).units = s.units := rfl
@[simp] theorem State.setStore_link (s : State) (x : Store) : (s.setStore x).link = s.link := rfl
@[simp] theorem State.setStore_peers (s : State) (x : Store) : (s.setStore x).peers = s.peers := rfl
@[simp] theorem State.setStore_time (s : State) (x : Store) : (s.setStore x).time = s.time := rfl
@[simp] theorem State.setStore_ctrl (s : State) (x : Store) : (s.setStore x).ctrl = s.ctrl := rfl
@[simp] theorem State.setStore_store (s : State) (x : Store) : (s.setStore x).store = x := rfl
@[simp] theorem State.setStore_port (s : State) (x : Store) : (s.setStore x).port = s.port := rfl
@[simp] theorem State.setStore_offers (s : State) (x : Store) : (s.setStore x).offers = s.offers := rfl
@[simp] theorem State.setStore_choice (s : State) (x : Store) : (s.setStore x).choice = s.choice := rfl
@[simp] theorem State.setStore_openRises (s : State) (x : Store) : (s.setStore x).openRises = s.openRises := rfl
@[simp] theorem State.setStore_pending (s : State) (x : Store) : (s.setStore x).pending = s.pending := rfl

/-! ### State.setPort -/

@[simp] theorem State.setPort_power (s : State) (x : Port) : (s.setPort x).power = s.power := rfl
@[simp] theorem State.setPort_station (s : State) (x : Port) : (s.setPort x).station = s.station := rfl
@[simp] theorem State.setPort_config (s : State) (x : Port) : (s.setPort x).config = s.config := rfl
@[simp] theorem State.setPort_lines (s : State) (x : Port) : (s.setPort x).lines = s.lines := rfl
@[simp] theorem State.setPort_counters (s : State) (x : Port) : (s.setPort x).counters = s.counters := rfl
@[simp] theorem State.setPort_ring (s : State) (x : Port) : (s.setPort x).ring = s.ring := rfl
@[simp] theorem State.setPort_units (s : State) (x : Port) : (s.setPort x).units = s.units := rfl
@[simp] theorem State.setPort_link (s : State) (x : Port) : (s.setPort x).link = s.link := rfl
@[simp] theorem State.setPort_peers (s : State) (x : Port) : (s.setPort x).peers = s.peers := rfl
@[simp] theorem State.setPort_time (s : State) (x : Port) : (s.setPort x).time = s.time := rfl
@[simp] theorem State.setPort_ctrl (s : State) (x : Port) : (s.setPort x).ctrl = s.ctrl := rfl
@[simp] theorem State.setPort_store (s : State) (x : Port) : (s.setPort x).store = s.store := rfl
@[simp] theorem State.setPort_port (s : State) (x : Port) : (s.setPort x).port = x := rfl
@[simp] theorem State.setPort_offers (s : State) (x : Port) : (s.setPort x).offers = s.offers := rfl
@[simp] theorem State.setPort_choice (s : State) (x : Port) : (s.setPort x).choice = s.choice := rfl
@[simp] theorem State.setPort_openRises (s : State) (x : Port) : (s.setPort x).openRises = s.openRises := rfl
@[simp] theorem State.setPort_pending (s : State) (x : Port) : (s.setPort x).pending = s.pending := rfl

/-! ### State.setOffers -/

@[simp] theorem State.setOffers_power (s : State) (x : List Offer) : (s.setOffers x).power = s.power := rfl
@[simp] theorem State.setOffers_station (s : State) (x : List Offer) : (s.setOffers x).station = s.station := rfl
@[simp] theorem State.setOffers_config (s : State) (x : List Offer) : (s.setOffers x).config = s.config := rfl
@[simp] theorem State.setOffers_lines (s : State) (x : List Offer) : (s.setOffers x).lines = s.lines := rfl
@[simp] theorem State.setOffers_counters (s : State) (x : List Offer) : (s.setOffers x).counters = s.counters := rfl
@[simp] theorem State.setOffers_ring (s : State) (x : List Offer) : (s.setOffers x).ring = s.ring := rfl
@[simp] theorem State.setOffers_units (s : State) (x : List Offer) : (s.setOffers x).units = s.units := rfl
@[simp] theorem State.setOffers_link (s : State) (x : List Offer) : (s.setOffers x).link = s.link := rfl
@[simp] theorem State.setOffers_peers (s : State) (x : List Offer) : (s.setOffers x).peers = s.peers := rfl
@[simp] theorem State.setOffers_time (s : State) (x : List Offer) : (s.setOffers x).time = s.time := rfl
@[simp] theorem State.setOffers_ctrl (s : State) (x : List Offer) : (s.setOffers x).ctrl = s.ctrl := rfl
@[simp] theorem State.setOffers_store (s : State) (x : List Offer) : (s.setOffers x).store = s.store := rfl
@[simp] theorem State.setOffers_port (s : State) (x : List Offer) : (s.setOffers x).port = s.port := rfl
@[simp] theorem State.setOffers_offers (s : State) (x : List Offer) : (s.setOffers x).offers = x := rfl
@[simp] theorem State.setOffers_choice (s : State) (x : List Offer) : (s.setOffers x).choice = s.choice := rfl
@[simp] theorem State.setOffers_openRises (s : State) (x : List Offer) : (s.setOffers x).openRises = s.openRises := rfl
@[simp] theorem State.setOffers_pending (s : State) (x : List Offer) : (s.setOffers x).pending = s.pending := rfl

/-! ### State.setChoice -/

@[simp] theorem State.setChoice_power (s : State) (x : Nat) : (s.setChoice x).power = s.power := rfl
@[simp] theorem State.setChoice_station (s : State) (x : Nat) : (s.setChoice x).station = s.station := rfl
@[simp] theorem State.setChoice_config (s : State) (x : Nat) : (s.setChoice x).config = s.config := rfl
@[simp] theorem State.setChoice_lines (s : State) (x : Nat) : (s.setChoice x).lines = s.lines := rfl
@[simp] theorem State.setChoice_counters (s : State) (x : Nat) : (s.setChoice x).counters = s.counters := rfl
@[simp] theorem State.setChoice_ring (s : State) (x : Nat) : (s.setChoice x).ring = s.ring := rfl
@[simp] theorem State.setChoice_units (s : State) (x : Nat) : (s.setChoice x).units = s.units := rfl
@[simp] theorem State.setChoice_link (s : State) (x : Nat) : (s.setChoice x).link = s.link := rfl
@[simp] theorem State.setChoice_peers (s : State) (x : Nat) : (s.setChoice x).peers = s.peers := rfl
@[simp] theorem State.setChoice_time (s : State) (x : Nat) : (s.setChoice x).time = s.time := rfl
@[simp] theorem State.setChoice_ctrl (s : State) (x : Nat) : (s.setChoice x).ctrl = s.ctrl := rfl
@[simp] theorem State.setChoice_store (s : State) (x : Nat) : (s.setChoice x).store = s.store := rfl
@[simp] theorem State.setChoice_port (s : State) (x : Nat) : (s.setChoice x).port = s.port := rfl
@[simp] theorem State.setChoice_offers (s : State) (x : Nat) : (s.setChoice x).offers = s.offers := rfl
@[simp] theorem State.setChoice_choice (s : State) (x : Nat) : (s.setChoice x).choice = x := rfl
@[simp] theorem State.setChoice_openRises (s : State) (x : Nat) : (s.setChoice x).openRises = s.openRises := rfl
@[simp] theorem State.setChoice_pending (s : State) (x : Nat) : (s.setChoice x).pending = s.pending := rfl

/-! ### State.setOpenRises -/

@[simp] theorem State.setOpenRises_power (s : State) (x : Nat) : (s.setOpenRises x).power = s.power := rfl
@[simp] theorem State.setOpenRises_station (s : State) (x : Nat) : (s.setOpenRises x).station = s.station := rfl
@[simp] theorem State.setOpenRises_config (s : State) (x : Nat) : (s.setOpenRises x).config = s.config := rfl
@[simp] theorem State.setOpenRises_lines (s : State) (x : Nat) : (s.setOpenRises x).lines = s.lines := rfl
@[simp] theorem State.setOpenRises_counters (s : State) (x : Nat) : (s.setOpenRises x).counters = s.counters := rfl
@[simp] theorem State.setOpenRises_ring (s : State) (x : Nat) : (s.setOpenRises x).ring = s.ring := rfl
@[simp] theorem State.setOpenRises_units (s : State) (x : Nat) : (s.setOpenRises x).units = s.units := rfl
@[simp] theorem State.setOpenRises_link (s : State) (x : Nat) : (s.setOpenRises x).link = s.link := rfl
@[simp] theorem State.setOpenRises_peers (s : State) (x : Nat) : (s.setOpenRises x).peers = s.peers := rfl
@[simp] theorem State.setOpenRises_time (s : State) (x : Nat) : (s.setOpenRises x).time = s.time := rfl
@[simp] theorem State.setOpenRises_ctrl (s : State) (x : Nat) : (s.setOpenRises x).ctrl = s.ctrl := rfl
@[simp] theorem State.setOpenRises_store (s : State) (x : Nat) : (s.setOpenRises x).store = s.store := rfl
@[simp] theorem State.setOpenRises_port (s : State) (x : Nat) : (s.setOpenRises x).port = s.port := rfl
@[simp] theorem State.setOpenRises_offers (s : State) (x : Nat) : (s.setOpenRises x).offers = s.offers := rfl
@[simp] theorem State.setOpenRises_choice (s : State) (x : Nat) : (s.setOpenRises x).choice = s.choice := rfl
@[simp] theorem State.setOpenRises_openRises (s : State) (x : Nat) : (s.setOpenRises x).openRises = x := rfl
@[simp] theorem State.setOpenRises_pending (s : State) (x : Nat) : (s.setOpenRises x).pending = s.pending := rfl

/-! ### State.setPending -/

@[simp] theorem State.setPending_power (s : State) (x : List Instr) : (s.setPending x).power = s.power := rfl
@[simp] theorem State.setPending_station (s : State) (x : List Instr) : (s.setPending x).station = s.station := rfl
@[simp] theorem State.setPending_config (s : State) (x : List Instr) : (s.setPending x).config = s.config := rfl
@[simp] theorem State.setPending_lines (s : State) (x : List Instr) : (s.setPending x).lines = s.lines := rfl
@[simp] theorem State.setPending_counters (s : State) (x : List Instr) : (s.setPending x).counters = s.counters := rfl
@[simp] theorem State.setPending_ring (s : State) (x : List Instr) : (s.setPending x).ring = s.ring := rfl
@[simp] theorem State.setPending_units (s : State) (x : List Instr) : (s.setPending x).units = s.units := rfl
@[simp] theorem State.setPending_link (s : State) (x : List Instr) : (s.setPending x).link = s.link := rfl
@[simp] theorem State.setPending_peers (s : State) (x : List Instr) : (s.setPending x).peers = s.peers := rfl
@[simp] theorem State.setPending_time (s : State) (x : List Instr) : (s.setPending x).time = s.time := rfl
@[simp] theorem State.setPending_ctrl (s : State) (x : List Instr) : (s.setPending x).ctrl = s.ctrl := rfl
@[simp] theorem State.setPending_store (s : State) (x : List Instr) : (s.setPending x).store = s.store := rfl
@[simp] theorem State.setPending_port (s : State) (x : List Instr) : (s.setPending x).port = s.port := rfl
@[simp] theorem State.setPending_offers (s : State) (x : List Instr) : (s.setPending x).offers = s.offers := rfl
@[simp] theorem State.setPending_choice (s : State) (x : List Instr) : (s.setPending x).choice = s.choice := rfl
@[simp] theorem State.setPending_openRises (s : State) (x : List Instr) : (s.setPending x).openRises = s.openRises := rfl
@[simp] theorem State.setPending_pending (s : State) (x : List Instr) : (s.setPending x).pending = x := rfl

/-! ### State.setMode -/

@[simp] theorem State.setMode_power (s : State) (m : Mode) : (s.setMode m).power = s.power := rfl
@[simp] theorem State.setMode_station (s : State) (m : Mode) : (s.setMode m).station = { s.station with mode := m } := rfl
@[simp] theorem State.setMode_config (s : State) (m : Mode) : (s.setMode m).config = s.config := rfl
@[simp] theorem State.setMode_lines (s : State) (m : Mode) : (s.setMode m).lines = s.lines := rfl
@[simp] theorem State.setMode_counters (s : State) (m : Mode) : (s.setMode m).counters = s.counters := rfl
@[simp] theorem State.setMode_ring (s : State) (m : Mode) : (s.setMode m).ring = s.ring := rfl
@[simp] theorem State.setMode_units (s : State) (m : Mode) : (s.setMode m).units = s.units := rfl
@[simp] theorem State.setMode_link (s : State) (m : Mode) : (s.setMode m).link = s.link := rfl
@[simp] theorem State.setMode_peers (s : State) (m : Mode) : (s.setMode m).peers = s.peers := rfl
@[simp] theorem State.setMode_time (s : State) (m : Mode) : (s.setMode m).time = s.time := rfl
@[simp] theorem State.setMode_ctrl (s : State) (m : Mode) : (s.setMode m).ctrl = s.ctrl := rfl
@[simp] theorem State.setMode_store (s : State) (m : Mode) : (s.setMode m).store = s.store := rfl
@[simp] theorem State.setMode_port (s : State) (m : Mode) : (s.setMode m).port = s.port := rfl
@[simp] theorem State.setMode_offers (s : State) (m : Mode) : (s.setMode m).offers = s.offers := rfl
@[simp] theorem State.setMode_choice (s : State) (m : Mode) : (s.setMode m).choice = s.choice := rfl
@[simp] theorem State.setMode_openRises (s : State) (m : Mode) : (s.setMode m).openRises = s.openRises := rfl
@[simp] theorem State.setMode_pending (s : State) (m : Mode) : (s.setMode m).pending = s.pending := rfl

/-! ### State.raise -/

@[simp] theorem State.raise_power (s : State) (f : Attention) : (s.raise f).power = s.power := rfl
@[simp] theorem State.raise_station (s : State) (f : Attention) : (s.raise f).station = s.station := rfl
@[simp] theorem State.raise_config (s : State) (f : Attention) : (s.raise f).config = s.config := rfl
@[simp] theorem State.raise_lines (s : State) (f : Attention) : (s.raise f).lines = s.lines := rfl
@[simp] theorem State.raise_counters (s : State) (f : Attention) : (s.raise f).counters = s.counters := rfl
@[simp] theorem State.raise_ring (s : State) (f : Attention) : (s.raise f).ring = s.ring := rfl
@[simp] theorem State.raise_units (s : State) (f : Attention) : (s.raise f).units = s.units := rfl
@[simp] theorem State.raise_link (s : State) (f : Attention) : (s.raise f).link = s.link := rfl
@[simp] theorem State.raise_peers (s : State) (f : Attention) : (s.raise f).peers = s.peers := rfl
@[simp] theorem State.raise_time (s : State) (f : Attention) : (s.raise f).time = s.time := rfl
@[simp] theorem State.raise_ctrl (s : State) (f : Attention) : (s.raise f).ctrl = s.ctrl := rfl
@[simp] theorem State.raise_store (s : State) (f : Attention) : (s.raise f).store = s.store := rfl
@[simp] theorem State.raise_port (s : State) (f : Attention) : (s.raise f).port = { s.port with attention := s.port.attention ||| f.bit } := rfl
@[simp] theorem State.raise_offers (s : State) (f : Attention) : (s.raise f).offers = s.offers := rfl
@[simp] theorem State.raise_choice (s : State) (f : Attention) : (s.raise f).choice = s.choice := rfl
@[simp] theorem State.raise_openRises (s : State) (f : Attention) : (s.raise f).openRises = s.openRises := rfl
@[simp] theorem State.raise_pending (s : State) (f : Attention) : (s.raise f).pending = s.pending := rfl

/-! ### State.bring -/

@[simp] theorem State.bring_power (s : State) (o : Offer) : (s.bring o).power = s.power := rfl
@[simp] theorem State.bring_station (s : State) (o : Offer) : (s.bring o).station = s.station := rfl
@[simp] theorem State.bring_config (s : State) (o : Offer) : (s.bring o).config = s.config := rfl
@[simp] theorem State.bring_lines (s : State) (o : Offer) : (s.bring o).lines = s.lines := rfl
@[simp] theorem State.bring_counters (s : State) (o : Offer) : (s.bring o).counters = s.counters := rfl
@[simp] theorem State.bring_ring (s : State) (o : Offer) : (s.bring o).ring = s.ring := rfl
@[simp] theorem State.bring_units (s : State) (o : Offer) : (s.bring o).units = s.units := rfl
@[simp] theorem State.bring_link (s : State) (o : Offer) : (s.bring o).link = s.link := rfl
@[simp] theorem State.bring_peers (s : State) (o : Offer) : (s.bring o).peers = s.peers := rfl
@[simp] theorem State.bring_time (s : State) (o : Offer) : (s.bring o).time = s.time := rfl
@[simp] theorem State.bring_ctrl (s : State) (o : Offer) : (s.bring o).ctrl = s.ctrl := rfl
@[simp] theorem State.bring_store (s : State) (o : Offer) : (s.bring o).store = s.store := rfl
@[simp] theorem State.bring_port (s : State) (o : Offer) : (s.bring o).port = s.port := rfl
@[simp] theorem State.bring_offers (s : State) (o : Offer) : (s.bring o).offers = s.offers ++ [o] := rfl
@[simp] theorem State.bring_choice (s : State) (o : Offer) : (s.bring o).choice = s.choice := rfl
@[simp] theorem State.bring_openRises (s : State) (o : Offer) : (s.bring o).openRises = s.openRises := rfl
@[simp] theorem State.bring_pending (s : State) (o : Offer) : (s.bring o).pending = s.pending := rfl

/-! ### State.setLine -/

@[simp] theorem State.setLine_power (s : State) (n : Fin 16) (x : LineInput) : (s.setLine n x).power = s.power := rfl
@[simp] theorem State.setLine_station (s : State) (n : Fin 16) (x : LineInput) : (s.setLine n x).station = s.station := rfl
@[simp] theorem State.setLine_config (s : State) (n : Fin 16) (x : LineInput) : (s.setLine n x).config = s.config := rfl
@[simp] theorem State.setLine_lines (s : State) (n : Fin 16) (x : LineInput) : (s.setLine n x).lines = { s.lines with ev := s.lines.ev.set n x } := rfl
@[simp] theorem State.setLine_counters (s : State) (n : Fin 16) (x : LineInput) : (s.setLine n x).counters = s.counters := rfl
@[simp] theorem State.setLine_ring (s : State) (n : Fin 16) (x : LineInput) : (s.setLine n x).ring = s.ring := rfl
@[simp] theorem State.setLine_units (s : State) (n : Fin 16) (x : LineInput) : (s.setLine n x).units = s.units := rfl
@[simp] theorem State.setLine_link (s : State) (n : Fin 16) (x : LineInput) : (s.setLine n x).link = s.link := rfl
@[simp] theorem State.setLine_peers (s : State) (n : Fin 16) (x : LineInput) : (s.setLine n x).peers = s.peers := rfl
@[simp] theorem State.setLine_time (s : State) (n : Fin 16) (x : LineInput) : (s.setLine n x).time = s.time := rfl
@[simp] theorem State.setLine_ctrl (s : State) (n : Fin 16) (x : LineInput) : (s.setLine n x).ctrl = s.ctrl := rfl
@[simp] theorem State.setLine_store (s : State) (n : Fin 16) (x : LineInput) : (s.setLine n x).store = s.store := rfl
@[simp] theorem State.setLine_port (s : State) (n : Fin 16) (x : LineInput) : (s.setLine n x).port = s.port := rfl
@[simp] theorem State.setLine_offers (s : State) (n : Fin 16) (x : LineInput) : (s.setLine n x).offers = s.offers := rfl
@[simp] theorem State.setLine_choice (s : State) (n : Fin 16) (x : LineInput) : (s.setLine n x).choice = s.choice := rfl
@[simp] theorem State.setLine_openRises (s : State) (n : Fin 16) (x : LineInput) : (s.setLine n x).openRises = s.openRises := rfl
@[simp] theorem State.setLine_pending (s : State) (n : Fin 16) (x : LineInput) : (s.setLine n x).pending = s.pending := rfl

/-! ### State.setVeto -/

@[simp] theorem State.setVeto_power (s : State) (x : LineInput) : (s.setVeto x).power = s.power := rfl
@[simp] theorem State.setVeto_station (s : State) (x : LineInput) : (s.setVeto x).station = s.station := rfl
@[simp] theorem State.setVeto_config (s : State) (x : LineInput) : (s.setVeto x).config = s.config := rfl
@[simp] theorem State.setVeto_lines (s : State) (x : LineInput) : (s.setVeto x).lines = { s.lines with veto := x } := rfl
@[simp] theorem State.setVeto_counters (s : State) (x : LineInput) : (s.setVeto x).counters = s.counters := rfl
@[simp] theorem State.setVeto_ring (s : State) (x : LineInput) : (s.setVeto x).ring = s.ring := rfl
@[simp] theorem State.setVeto_units (s : State) (x : LineInput) : (s.setVeto x).units = s.units := rfl
@[simp] theorem State.setVeto_link (s : State) (x : LineInput) : (s.setVeto x).link = s.link := rfl
@[simp] theorem State.setVeto_peers (s : State) (x : LineInput) : (s.setVeto x).peers = s.peers := rfl
@[simp] theorem State.setVeto_time (s : State) (x : LineInput) : (s.setVeto x).time = s.time := rfl
@[simp] theorem State.setVeto_ctrl (s : State) (x : LineInput) : (s.setVeto x).ctrl = s.ctrl := rfl
@[simp] theorem State.setVeto_store (s : State) (x : LineInput) : (s.setVeto x).store = s.store := rfl
@[simp] theorem State.setVeto_port (s : State) (x : LineInput) : (s.setVeto x).port = s.port := rfl
@[simp] theorem State.setVeto_offers (s : State) (x : LineInput) : (s.setVeto x).offers = s.offers := rfl
@[simp] theorem State.setVeto_choice (s : State) (x : LineInput) : (s.setVeto x).choice = s.choice := rfl
@[simp] theorem State.setVeto_openRises (s : State) (x : LineInput) : (s.setVeto x).openRises = s.openRises := rfl
@[simp] theorem State.setVeto_pending (s : State) (x : LineInput) : (s.setVeto x).pending = s.pending := rfl

/-! ### State.setPeer -/

@[simp] theorem State.setPeer_power (s : State) (a : Address) (e : PeerEntry) : (s.setPeer a e).power = s.power := rfl
@[simp] theorem State.setPeer_station (s : State) (a : Address) (e : PeerEntry) : (s.setPeer a e).station = s.station := rfl
@[simp] theorem State.setPeer_config (s : State) (a : Address) (e : PeerEntry) : (s.setPeer a e).config = s.config := rfl
@[simp] theorem State.setPeer_lines (s : State) (a : Address) (e : PeerEntry) : (s.setPeer a e).lines = s.lines := rfl
@[simp] theorem State.setPeer_counters (s : State) (a : Address) (e : PeerEntry) : (s.setPeer a e).counters = s.counters := rfl
@[simp] theorem State.setPeer_ring (s : State) (a : Address) (e : PeerEntry) : (s.setPeer a e).ring = s.ring := rfl
@[simp] theorem State.setPeer_units (s : State) (a : Address) (e : PeerEntry) : (s.setPeer a e).units = s.units := rfl
@[simp] theorem State.setPeer_link (s : State) (a : Address) (e : PeerEntry) : (s.setPeer a e).link = s.link := rfl
@[simp] theorem State.setPeer_peers (s : State) (a : Address) (e : PeerEntry) : (s.setPeer a e).peers = { s.peers with table := s.peers.table.set a.toNat e a.isLt } := rfl
@[simp] theorem State.setPeer_time (s : State) (a : Address) (e : PeerEntry) : (s.setPeer a e).time = s.time := rfl
@[simp] theorem State.setPeer_ctrl (s : State) (a : Address) (e : PeerEntry) : (s.setPeer a e).ctrl = s.ctrl := rfl
@[simp] theorem State.setPeer_store (s : State) (a : Address) (e : PeerEntry) : (s.setPeer a e).store = s.store := rfl
@[simp] theorem State.setPeer_port (s : State) (a : Address) (e : PeerEntry) : (s.setPeer a e).port = s.port := rfl
@[simp] theorem State.setPeer_offers (s : State) (a : Address) (e : PeerEntry) : (s.setPeer a e).offers = s.offers := rfl
@[simp] theorem State.setPeer_choice (s : State) (a : Address) (e : PeerEntry) : (s.setPeer a e).choice = s.choice := rfl
@[simp] theorem State.setPeer_openRises (s : State) (a : Address) (e : PeerEntry) : (s.setPeer a e).openRises = s.openRises := rfl
@[simp] theorem State.setPeer_pending (s : State) (a : Address) (e : PeerEntry) : (s.setPeer a e).pending = s.pending := rfl

/-! ### State.setUnit -/

@[simp] theorem State.setUnit_power (s : State) (k : Fin 4) (u : TriggerUnit) : (s.setUnit k u).power = s.power := rfl
@[simp] theorem State.setUnit_station (s : State) (k : Fin 4) (u : TriggerUnit) : (s.setUnit k u).station = s.station := rfl
@[simp] theorem State.setUnit_config (s : State) (k : Fin 4) (u : TriggerUnit) : (s.setUnit k u).config = s.config := rfl
@[simp] theorem State.setUnit_lines (s : State) (k : Fin 4) (u : TriggerUnit) : (s.setUnit k u).lines = s.lines := rfl
@[simp] theorem State.setUnit_counters (s : State) (k : Fin 4) (u : TriggerUnit) : (s.setUnit k u).counters = s.counters := rfl
@[simp] theorem State.setUnit_ring (s : State) (k : Fin 4) (u : TriggerUnit) : (s.setUnit k u).ring = s.ring := rfl
@[simp] theorem State.setUnit_units (s : State) (k : Fin 4) (u : TriggerUnit) : (s.setUnit k u).units = s.units.set k u := rfl
@[simp] theorem State.setUnit_link (s : State) (k : Fin 4) (u : TriggerUnit) : (s.setUnit k u).link = s.link := rfl
@[simp] theorem State.setUnit_peers (s : State) (k : Fin 4) (u : TriggerUnit) : (s.setUnit k u).peers = s.peers := rfl
@[simp] theorem State.setUnit_time (s : State) (k : Fin 4) (u : TriggerUnit) : (s.setUnit k u).time = s.time := rfl
@[simp] theorem State.setUnit_ctrl (s : State) (k : Fin 4) (u : TriggerUnit) : (s.setUnit k u).ctrl = s.ctrl := rfl
@[simp] theorem State.setUnit_store (s : State) (k : Fin 4) (u : TriggerUnit) : (s.setUnit k u).store = s.store := rfl
@[simp] theorem State.setUnit_port (s : State) (k : Fin 4) (u : TriggerUnit) : (s.setUnit k u).port = s.port := rfl
@[simp] theorem State.setUnit_offers (s : State) (k : Fin 4) (u : TriggerUnit) : (s.setUnit k u).offers = s.offers := rfl
@[simp] theorem State.setUnit_choice (s : State) (k : Fin 4) (u : TriggerUnit) : (s.setUnit k u).choice = s.choice := rfl
@[simp] theorem State.setUnit_openRises (s : State) (k : Fin 4) (u : TriggerUnit) : (s.setUnit k u).openRises = s.openRises := rfl
@[simp] theorem State.setUnit_pending (s : State) (k : Fin 4) (u : TriggerUnit) : (s.setUnit k u).pending = s.pending := rfl

/-! ### State.withdrawTrigger -/

@[simp] theorem State.withdrawTrigger_power (s : State) : s.withdrawTrigger.power = s.power := rfl
@[simp] theorem State.withdrawTrigger_station (s : State) : s.withdrawTrigger.station = s.station := rfl
@[simp] theorem State.withdrawTrigger_config (s : State) : s.withdrawTrigger.config = s.config := rfl
@[simp] theorem State.withdrawTrigger_lines (s : State) : s.withdrawTrigger.lines = s.lines := rfl
@[simp] theorem State.withdrawTrigger_counters (s : State) : s.withdrawTrigger.counters = s.counters := rfl
@[simp] theorem State.withdrawTrigger_ring (s : State) : s.withdrawTrigger.ring = s.ring := rfl
@[simp] theorem State.withdrawTrigger_units (s : State) : s.withdrawTrigger.units = s.units := rfl
@[simp] theorem State.withdrawTrigger_link (s : State) : s.withdrawTrigger.link = s.link.withdraw := rfl
@[simp] theorem State.withdrawTrigger_peers (s : State) : s.withdrawTrigger.peers = s.peers := rfl
@[simp] theorem State.withdrawTrigger_time (s : State) : s.withdrawTrigger.time = s.time := rfl
@[simp] theorem State.withdrawTrigger_ctrl (s : State) : s.withdrawTrigger.ctrl = s.ctrl := rfl
@[simp] theorem State.withdrawTrigger_store (s : State) : s.withdrawTrigger.store = s.store := rfl
@[simp] theorem State.withdrawTrigger_port (s : State) : s.withdrawTrigger.port = s.port := rfl
@[simp] theorem State.withdrawTrigger_offers (s : State) : s.withdrawTrigger.offers = s.offers := rfl
@[simp] theorem State.withdrawTrigger_choice (s : State) : s.withdrawTrigger.choice = s.choice := rfl
@[simp] theorem State.withdrawTrigger_openRises (s : State) : s.withdrawTrigger.openRises = s.openRises := rfl
@[simp] theorem State.withdrawTrigger_pending (s : State) : s.withdrawTrigger.pending = s.pending := rfl

/-! ### State.requestBeacon -/

@[simp] theorem State.requestBeacon_link (s : State) :
    s.requestBeacon.link = if s.station.mode.transmits then s.link.requestBeacon else s.link := by
  unfold State.requestBeacon; split <;> rfl

@[simp] theorem State.requestBeacon_power (s : State) : s.requestBeacon.power = s.power := by
  unfold State.requestBeacon; split <;> rfl

@[simp] theorem State.requestBeacon_station (s : State) : s.requestBeacon.station = s.station := by
  unfold State.requestBeacon; split <;> rfl

@[simp] theorem State.requestBeacon_config (s : State) : s.requestBeacon.config = s.config := by
  unfold State.requestBeacon; split <;> rfl

@[simp] theorem State.requestBeacon_lines (s : State) : s.requestBeacon.lines = s.lines := by
  unfold State.requestBeacon; split <;> rfl

@[simp] theorem State.requestBeacon_counters (s : State) : s.requestBeacon.counters = s.counters := by
  unfold State.requestBeacon; split <;> rfl

@[simp] theorem State.requestBeacon_ring (s : State) : s.requestBeacon.ring = s.ring := by
  unfold State.requestBeacon; split <;> rfl

@[simp] theorem State.requestBeacon_units (s : State) : s.requestBeacon.units = s.units := by
  unfold State.requestBeacon; split <;> rfl

@[simp] theorem State.requestBeacon_peers (s : State) : s.requestBeacon.peers = s.peers := by
  unfold State.requestBeacon; split <;> rfl

@[simp] theorem State.requestBeacon_time (s : State) : s.requestBeacon.time = s.time := by
  unfold State.requestBeacon; split <;> rfl

@[simp] theorem State.requestBeacon_ctrl (s : State) : s.requestBeacon.ctrl = s.ctrl := by
  unfold State.requestBeacon; split <;> rfl

@[simp] theorem State.requestBeacon_store (s : State) : s.requestBeacon.store = s.store := by
  unfold State.requestBeacon; split <;> rfl

@[simp] theorem State.requestBeacon_port (s : State) : s.requestBeacon.port = s.port := by
  unfold State.requestBeacon; split <;> rfl

@[simp] theorem State.requestBeacon_offers (s : State) : s.requestBeacon.offers = s.offers := by
  unfold State.requestBeacon; split <;> rfl

@[simp] theorem State.requestBeacon_choice (s : State) : s.requestBeacon.choice = s.choice := by
  unfold State.requestBeacon; split <;> rfl

@[simp] theorem State.requestBeacon_pending (s : State) : s.requestBeacon.pending = s.pending := by
  unfold State.requestBeacon; split <;> rfl

@[simp] theorem State.requestBeacon_openRises (s : State) : s.requestBeacon.openRises = s.openRises := by
  unfold State.requestBeacon; split <;> rfl

/-! ### OPEN rises -/

@[simp] theorem State.riseOpen_power (s : State) : s.riseOpen.power = s.power := by
  unfold State.riseOpen; split <;> rfl

@[simp] theorem State.riseOpen_station (s : State) : s.riseOpen.station = s.station := by
  unfold State.riseOpen; split <;> rfl

@[simp] theorem State.riseOpen_config (s : State) : s.riseOpen.config = s.config := by
  unfold State.riseOpen; split <;> rfl

@[simp] theorem State.riseOpen_lines (s : State) : s.riseOpen.lines = s.lines := by
  unfold State.riseOpen; split <;> rfl

@[simp] theorem State.riseOpen_counters (s : State) : s.riseOpen.counters = s.counters := by
  unfold State.riseOpen; split <;> rfl

@[simp] theorem State.riseOpen_ring (s : State) : s.riseOpen.ring = s.ring := by
  unfold State.riseOpen; split <;> rfl

@[simp] theorem State.riseOpen_units (s : State) : s.riseOpen.units = s.units := by
  unfold State.riseOpen; split <;> rfl

@[simp] theorem State.riseOpen_link (s : State) : s.riseOpen.link = s.link := by
  unfold State.riseOpen; split <;> rfl

@[simp] theorem State.riseOpen_peers (s : State) : s.riseOpen.peers = s.peers := by
  unfold State.riseOpen; split <;> rfl

@[simp] theorem State.riseOpen_time (s : State) : s.riseOpen.time = s.time := by
  unfold State.riseOpen; split <;> rfl

@[simp] theorem State.riseOpen_ctrl (s : State) : s.riseOpen.ctrl = s.ctrl := by
  unfold State.riseOpen; split <;> rfl

@[simp] theorem State.riseOpen_store (s : State) : s.riseOpen.store = s.store := by
  unfold State.riseOpen; split <;> rfl

@[simp] theorem State.riseOpen_port (s : State) : s.riseOpen.port = s.port := by
  unfold State.riseOpen; split <;> rfl

@[simp] theorem State.riseOpen_offers (s : State) : s.riseOpen.offers = s.offers := by
  unfold State.riseOpen; split <;> rfl

@[simp] theorem State.riseOpen_choice (s : State) : s.riseOpen.choice = s.choice := by
  unfold State.riseOpen; split <;> rfl

@[simp] theorem State.riseOpen_pending (s : State) : s.riseOpen.pending = s.pending := by
  unfold State.riseOpen; split <;> rfl

/-- A rise of OPEN counts one, in a station whose RESET is not low (R172). -/
@[simp] theorem State.riseOpen_openRises (s : State) :
    s.riseOpen.openRises = s.openRises + s.running.toNat := by
  unfold State.riseOpen; split <;> simp [*]

end Sys2Proof.Machine
end

