-- ==== Sys2Proof/Laws/Basics.lean ====
section
/-! SUPPORT. The small lemmas of the shared definitions: vectors, free orders, slots, the ring and the offers. -/

namespace Sys2Proof

theorem vecOf_getElem {α : Type} (n : Nat) (f : Fin n → α) (i : Nat) (h : i < n) : (vecOf n f)[i] = f ⟨i, h⟩ := by
  simp [vecOf]

@[simp] theorem vecOf_get {α : Type} (n : Nat) (f : Fin n → α) (i : Fin n) : (vecOf n f)[i] = f i :=
  vecOf_getElem n f i.val i.isLt

end Sys2Proof

namespace Sys2Proof.Machine

/-! ### Free orders -/

theorem putAt_perm {α : Type} (a : α) (k : Nat) (l : List α) : (putAt a k l).Perm (a :: l) := by
  induction l generalizing k with
  | nil => cases k <;> exact List.Perm.refl _
  | cons b l ih =>
    cases k with
    | zero => exact List.Perm.refl _
    | succ k => exact ((ih k).cons b).trans (List.Perm.swap a b l)

/-- A free order holds each element of the list once, and nothing else (log 3). -/
theorem freeOrder_perm {α : Type} (k : Nat) (l : List α) : (freeOrder k l).Perm l := by
  induction l generalizing k with
  | nil => exact List.Perm.refl _
  | cons a l ih =>
    cases l with
    | nil => exact List.Perm.refl _
    | cons b l => exact (putAt_perm _ _ _).trans ((ih (k + 1)).cons a)

@[simp] theorem mem_freeOrder {α : Type} (k : Nat) (l : List α) (a : α) : a ∈ freeOrder k l ↔ a ∈ l :=
  (freeOrder_perm k l).mem_iff

@[simp] theorem freeOrder_length {α : Type} (k : Nat) (l : List α) : (freeOrder k l).length = l.length :=
  (freeOrder_perm k l).length_eq

/-! ### Slots -/

@[simp] theorem Store.slot_setSlot_self (st : Store) (i : Fin 8) (x : Slot) : (st.setSlot i x).slot i = x := by
  simp [Store.slot, Store.setSlot]

theorem Store.slot_setSlot_ne (st : Store) {i j : Fin 8} (x : Slot) (h : i ≠ j) :
    (st.setSlot i x).slot j = st.slot j := by
  have hv : i.val ≠ j.val := fun e => h (Fin.ext e)
  simp [Store.slot, Store.setSlot, Vector.getElem_set_ne, hv]

@[simp] theorem Store.setSlot_freeEntries (st : Store) (i : Fin 8) (x : Slot) :
    (st.setSlot i x).freeEntries = st.freeEntries := rfl

@[simp] theorem Store.setSlot_order (st : Store) (i : Fin 8) (x : Slot) : (st.setSlot i x).order = st.order := rfl

@[simp] theorem Store.setSlot_selection (st : Store) (i : Fin 8) (x : Slot) :
    (st.setSlot i x).selection = st.selection := rfl

theorem Slot.isFree_iff (x : Slot) : x.isFree = true ↔ x = .free := by
  cases x <;> simp [Slot.isFree]

/-- The slot that an opening takes is FREE (R137). -/
theorem Store.slot_of_lowestFree {st : Store} {i : Fin 8} (h : st.lowestFree = some i) : st.slot i = .free := by
  have h2 := List.find?_some h
  exact (Slot.isFree_iff _).1 h2

/-- No slot of lower index than the one an opening takes is FREE (R137). -/
theorem Store.not_free_below {st : Store} {i : Fin 8} (h : st.lowestFree = some i) (j : Fin 8) (hj : j < i) :
    st.slot j ≠ .free := by
  intro hf
  obtain ⟨_, as, bs, hl, hn⟩ := List.find?_eq_some_iff_append.1 h
  have hpos : ∀ k : Fin 8, k ∈ as ↔ k < i := by
    have hsorted : (as ++ i :: bs).Pairwise (· < ·) := hl ▸ List.sortedLT_finRange 8 |>.pairwise
    have hmem : ∀ k : Fin 8, k ∈ as ++ i :: bs := fun k => hl ▸ List.mem_finRange k
    intro k
    rw [List.pairwise_append] at hsorted
    obtain ⟨_, h2, h3⟩ := hsorted
    constructor
    · intro hk; exact h3 k hk i (by simp)
    · intro hk
      rcases List.mem_append.1 (hmem k) with h4 | h4
      · exact h4
      · rcases List.mem_cons.1 h4 with h5 | h5
        · exact absurd (h5 ▸ hk) (lt_irrefl _)
        · exact absurd (lt_trans hk ((List.pairwise_cons.1 h2).1 k h5)) (lt_irrefl _)
  have := hn j ((hpos j).2 hj)
  rw [hf] at this
  simp [Slot.isFree] at this

/-! ### The ring -/

@[simp] theorem Ring.put_nextSeq (r : Ring) (x : Record) : (r.put x).nextSeq = r.nextSeq + 1#16 := rfl

@[simp] theorem Ring.put_cursor (r : Ring) (x : Record) : (r.put x).cursor = r.moveCursor x := rfl

/-- A write puts the record last (R18). -/
theorem Ring.put_getLast (r : Ring) (x : Record) : (r.put x).records.getLast? = some x := by
  unfold Ring.put; split <;> simp

/-- A write grows the ring by one record, up to 256 (R18). -/
theorem Ring.put_length (r : Ring) (x : Record) (h : r.records.length ≤ ringCapacity) :
    (r.put x).records.length = min ringCapacity (r.records.length + 1) := by
  have hc : ringCapacity = 256 := rfl
  unfold Ring.put Ring.full
  rw [hc] at h ⊢
  by_cases hf : 256 ≤ r.records.length
  · simp only [hf, decide_true, if_true, List.length_append, List.length_tail, List.length_singleton]; omega
  · simp only [hf, decide_false, List.length_append, List.length_singleton]; simp only [Bool.false_eq_true, if_false]; omega

/-! ### Offers -/

/-- With no offer brought, nothing is taken. -/
theorem settle_of_no_offers (s : State) (h : s.offers = []) : settle s = s := by
  unfold settle
  rw [h]
  simp [takeOffers, h]

/-- With no armed unit, an offer changes nothing (R34). -/
theorem takeOffer_of_none_armed (o : Offer) (s : State) (h : s.armedUnits = []) : takeOffer o s = s := by
  simp [takeOffer, h, takeOfferIn, freeOrder, choicesFor, State.setChoice]

end Sys2Proof.Machine
end

