-- ==== Sys2Proof/Laws/Capture.lean ====
section
/-! SUPPORT. What capture does: the blocks that writing, closing, opening and requesting leave alone, and what each operation makes of the rest. -/

namespace Sys2Proof.Machine

/-- What capture leaves alone, and the bounds of what it changes: the ring, the store and the controller change,
the transmit list loses or gains a TRIGGER or a BEACON, flags are set, offers are brought, and counters of the
reset-on-anchor mask are cleared. -/
structure CaptureFrame (s t : State) : Prop where
  power : t.power = s.power
  station : t.station = s.station
  config : t.config = s.config
  lines : t.lines = s.lines
  units : t.units = s.units
  peers : t.peers = s.peers
  time : t.time = s.time
  choice : t.choice = s.choice
  pending : t.pending = s.pending
  rx : t.link.rx = s.link.rx
  latch : t.link.latch = s.link.latch
  rate : t.link.rate = s.link.rate
  failures : t.link.failures = s.link.failures
  commands : t.link.list.commands = s.link.list.commands
  message : t.link.attempt.map Attempt.message = s.link.attempt.map Attempt.message
  response : t.port.response = s.port.response
  bus : t.port.bus = s.port.bus
  localHold : t.ctrl.localHold = s.ctrl.localHold
  groupHold : t.ctrl.groupHold = s.ctrl.groupHold
  highest : s.ctrl.highest ≤ t.ctrl.highest
  openRises : s.openRises ≤ t.openRises
  offers : ∃ more, t.offers = s.offers ++ more
  counters : ∀ n : Fin 16, t.counters[n] = s.counters[n] ∨
    (inMask s.config.items.resetMask n = true ∧ t.counters[n] = 0#32)
  attention : s.port.attention &&& t.port.attention = s.port.attention

namespace CaptureFrame

theorem refl (s : State) : CaptureFrame s s := by
  constructor <;> first | rfl | exact ⟨[], by simp⟩ | (intro n; exact Or.inl rfl) | simp

theorem trans {s t u : State} (h : CaptureFrame s t) (k : CaptureFrame t u) : CaptureFrame s u where
  power := k.power.trans h.power
  station := k.station.trans h.station
  config := k.config.trans h.config
  lines := k.lines.trans h.lines
  units := k.units.trans h.units
  peers := k.peers.trans h.peers
  time := k.time.trans h.time
  choice := k.choice.trans h.choice
  pending := k.pending.trans h.pending
  rx := k.rx.trans h.rx
  latch := k.latch.trans h.latch
  rate := k.rate.trans h.rate
  failures := k.failures.trans h.failures
  commands := k.commands.trans h.commands
  message := k.message.trans h.message
  response := k.response.trans h.response
  bus := k.bus.trans h.bus
  openRises := Nat.le_trans h.openRises k.openRises
  localHold := k.localHold.trans h.localHold
  groupHold := k.groupHold.trans h.groupHold
  highest := BitVec.le_trans h.highest k.highest
  offers := by
    obtain ⟨a, ha⟩ := h.offers
    obtain ⟨b, hb⟩ := k.offers
    exact ⟨a ++ b, by rw [hb, ha, List.append_assoc]⟩
  counters := by
    intro n
    rcases k.counters n with hk | ⟨hm, hk⟩
    · rcases h.counters n with hh | ⟨hm, hh⟩
      · exact Or.inl (hk.trans hh)
      · exact Or.inr ⟨hm, hk.trans hh⟩
    · exact Or.inr ⟨by rw [← h.config]; exact hm, hk⟩
  attention := by
    rw [← h.attention, BitVec.and_assoc, k.attention]

end CaptureFrame

/-! ### Updates of one block -/

theorem captureFrame_setStore (s : State) (x : Store) : CaptureFrame s (s.setStore x) := by
  constructor <;> first | rfl | exact ⟨[], by simp⟩ | (intro n; exact Or.inl rfl) | simp

theorem captureFrame_setRing (s : State) (x : Ring) : CaptureFrame s (s.setRing x) := by
  constructor <;> first | rfl | exact ⟨[], by simp⟩ | (intro n; exact Or.inl rfl) | simp

theorem captureFrame_setCtrl (s : State) (x : Controller) (hl : x.localHold = s.ctrl.localHold)
    (hg : x.groupHold = s.ctrl.groupHold) (hh : s.ctrl.highest ≤ x.highest) : CaptureFrame s (s.setCtrl x) := by
  constructor <;> first | rfl | exact ⟨[], by simp⟩ | (intro n; exact Or.inl rfl) | exact hl | exact hg | exact hh | simp

theorem captureFrame_riseOpen (s : State) : CaptureFrame s s.riseOpen := by
  constructor <;> simp

theorem captureFrame_setRegister (s : State) (x : Option HeldTrigger) :
    CaptureFrame s (s.setCtrl { s.ctrl with register := x }) :=
  captureFrame_setCtrl s _ rfl rfl (BitVec.le_refl _)

theorem captureFrame_setCurrent (s : State) (x : Option OpenEpisode) :
    CaptureFrame s (s.setCtrl { s.ctrl with current := x }) :=
  captureFrame_setCtrl s _ rfl rfl (BitVec.le_refl _)

theorem captureFrame_setOwnBusy (s : State) (x : Bool) :
    CaptureFrame s (s.setCtrl { s.ctrl with ownBusy := x }) :=
  captureFrame_setCtrl s _ rfl rfl (BitVec.le_refl _)

theorem captureFrame_setGroupBusy (s : State) (x : Bool) :
    CaptureFrame s (s.setCtrl { s.ctrl with groupBusy := x }) :=
  captureFrame_setCtrl s _ rfl rfl (BitVec.le_refl _)

theorem captureFrame_setGapMark (s : State) (x : Bool) :
    CaptureFrame s (s.setCtrl { s.ctrl with gapMark := x }) :=
  captureFrame_setCtrl s _ rfl rfl (BitVec.le_refl _)

theorem captureFrame_raise (s : State) (f : Attention) : CaptureFrame s (s.raise f) := by
  constructor <;> first | rfl | exact ⟨[], by simp⟩ | (intro n; exact Or.inl rfl) | simp
  · ext i; simp; tauto

@[simp] theorem Link.requestBeacon_rx (l : Link) : l.requestBeacon.rx = l.rx := rfl
@[simp] theorem Link.requestBeacon_latch (l : Link) : l.requestBeacon.latch = l.latch := rfl
@[simp] theorem Link.requestBeacon_rate (l : Link) : l.requestBeacon.rate = l.rate := rfl
@[simp] theorem Link.requestBeacon_failures (l : Link) : l.requestBeacon.failures = l.failures := rfl
@[simp] theorem Link.requestBeacon_attempt (l : Link) : l.requestBeacon.attempt = l.attempt := rfl
@[simp] theorem Link.requestBeacon_commands (l : Link) : l.requestBeacon.list.commands = l.list.commands := rfl
@[simp] theorem Link.requestBeacon_trigger (l : Link) : l.requestBeacon.list.trigger = l.list.trigger := rfl

@[simp] theorem Link.withdraw_rx (l : Link) : l.withdraw.rx = l.rx := rfl
@[simp] theorem Link.withdraw_latch (l : Link) : l.withdraw.latch = l.latch := rfl
@[simp] theorem Link.withdraw_rate (l : Link) : l.withdraw.rate = l.rate := rfl
@[simp] theorem Link.withdraw_failures (l : Link) : l.withdraw.failures = l.failures := rfl
@[simp] theorem Link.withdraw_commands (l : Link) : l.withdraw.list.commands = l.list.commands := rfl
@[simp] theorem Link.withdraw_beacon (l : Link) : l.withdraw.list.beacon = l.list.beacon := rfl
@[simp] theorem Link.withdraw_trigger (l : Link) : l.withdraw.list.trigger = false := rfl

/-- A withdrawal leaves the message of an attempt in progress as it is (R64). -/
@[simp] theorem Link.withdraw_message (l : Link) :
    l.withdraw.attempt.map Attempt.message = l.attempt.map Attempt.message := by
  unfold Link.withdraw
  rcases l.attempt with _ | ⟨m, w⟩
  · rfl
  · cases m <;> rfl

theorem captureFrame_requestBeacon (s : State) : CaptureFrame s s.requestBeacon := by
  unfold State.requestBeacon
  split
  · constructor <;> first | rfl | exact ⟨[], by simp⟩ | (intro n; exact Or.inl rfl) | simp
  · exact CaptureFrame.refl s

theorem captureFrame_withdraw (s : State) : CaptureFrame s s.withdrawTrigger := by
  constructor <;> first | rfl | exact ⟨[], by simp⟩ | (intro n; exact Or.inl rfl) | simp

theorem captureFrame_bring (s : State) (o : Offer) : CaptureFrame s (s.bring o) := by
  constructor <;> first | rfl | exact ⟨[o], rfl⟩ | (intro n; exact Or.inl rfl) | simp

/-! ### BUSY, the close, and the hand-over -/

/-- Evaluating own BUSY changes the controller's two busy values and may list a BEACON (R119 to R121). -/
theorem captureFrame_updateBusy (s : State) : CaptureFrame s (updateBusy s) := by
  unfold updateBusy
  dsimp only
  split
  · exact CaptureFrame.refl s
  · exact (captureFrame_setOwnBusy s _).trans ((captureFrame_requestBeacon _).trans (captureFrame_setGroupBusy _ _))

@[simp] theorem updateBusy_ring (s : State) : (updateBusy s).ring = s.ring := by
  unfold updateBusy; dsimp only; split <;> simp

@[simp] theorem updateBusy_store (s : State) : (updateBusy s).store = s.store := by
  unfold updateBusy; dsimp only; split <;> simp

@[simp] theorem updateBusy_port (s : State) : (updateBusy s).port = s.port := by
  unfold updateBusy; dsimp only; split <;> simp

@[simp] theorem updateBusy_offers (s : State) : (updateBusy s).offers = s.offers := by
  unfold updateBusy; dsimp only; split <;> simp

@[simp] theorem updateBusy_counters (s : State) : (updateBusy s).counters = s.counters := by
  unfold updateBusy; dsimp only; split <;> simp

/-- Evaluating own BUSY leaves everything else that the controller holds. -/
theorem updateBusy_ctrl (s : State) :
    (updateBusy s).ctrl = { s.ctrl with ownBusy := (updateBusy s).ctrl.ownBusy, groupBusy := (updateBusy s).ctrl.groupBusy } := by
  unfold updateBusy; dsimp only; split <;> simp

@[simp] theorem updateBusy_current (s : State) : (updateBusy s).ctrl.current = s.ctrl.current := by
  rw [updateBusy_ctrl]

@[simp] theorem updateBusy_highest (s : State) : (updateBusy s).ctrl.highest = s.ctrl.highest := by
  rw [updateBusy_ctrl]

@[simp] theorem updateBusy_register (s : State) : (updateBusy s).ctrl.register = s.ctrl.register := by
  rw [updateBusy_ctrl]

/-- After its evaluation, own BUSY is what the counts and R give (R119). -/
theorem updateBusy_ownBusy (s : State) : (updateBusy s).ctrl.ownBusy = s.busyByCounts := by
  unfold updateBusy
  dsimp only
  split
  · rename_i h; exact (beq_iff_eq.1 h).symm
  · simp

theorem captureFrame_closeCurrent (e : EndStatus) (s : State) : CaptureFrame s (closeCurrent e s) := by
  unfold closeCurrent
  split
  · exact CaptureFrame.refl s
  · rename_i o _
    have h : CaptureFrame s (((s.setStore (s.store.complete o.slot e)).setCtrl
        { s.ctrl with current := none }).withdrawTrigger) :=
      (captureFrame_setStore s _).trans ((captureFrame_setCurrent _ none).trans (captureFrame_withdraw _))
    cases e <;> first | exact h | exact h.trans (captureFrame_raise _ _)

/-- A close leaves no episode open (step 8 of R114). -/
@[simp] theorem closeCurrent_current (e : EndStatus) (s : State) : (closeCurrent e s).ctrl.current = none := by
  unfold closeCurrent
  split
  · assumption
  · cases e <;> rfl

@[simp] theorem closeCurrent_ring (e : EndStatus) (s : State) : (closeCurrent e s).ring = s.ring := by
  unfold closeCurrent
  split
  · rfl
  · cases e <;> rfl

/-- What a close makes of the store: the open slot becomes COMPLETE (R140). -/
theorem closeCurrent_store (e : EndStatus) (s : State) :
    (closeCurrent e s).store =
      match s.ctrl.current with
      | none => s.store
      | some o => s.store.complete o.slot e := by
  unfold closeCurrent
  cases s.ctrl.current with
  | none => rfl
  | some o => cases e <;> rfl

/-- What a close changes in the controller: the open episode alone. -/
theorem closeCurrent_ctrl (e : EndStatus) (s : State) :
    (closeCurrent e s).ctrl = { s.ctrl with current := none } := by
  unfold closeCurrent
  split
  · rename_i h; rw [← h]
  · cases e <;> rfl

/-- The four outcomes of a hand-over (R24, R138): no open slot, a close as TRUNCATED, a close as FULL after the
append, or the append alone. -/
theorem handOver_cases (r : Record) (s : State) :
    (handOver r s = s) ∨
      ∃ o e, s.ctrl.current = some o ∧ s.store.slot o.slot = .filling e ∧
        ((s.store.freeEntries = 0 ∧ handOver r s = closeCurrent .truncated s) ∨
          (s.store.freeEntries ≠ 0 ∧
            ∃ s1, s1 = s.setStore { (s.store.setSlot o.slot (.filling (e.append r))) with
                freeEntries := s.store.freeEntries - 1 } ∧
              ((s.config.items.postCount ≤ e.header.postCount + 1 ∧
                  handOver r s = updateBusy (closeCurrent .full s1)) ∨
                (¬ s.config.items.postCount ≤ e.header.postCount + 1 ∧ handOver r s = updateBusy s1)))) := by
  unfold handOver
  split
  · exact Or.inl rfl
  · rename_i o ho
    split
    · exact Or.inl rfl
    · exact Or.inl rfl
    · rename_i e he
      refine Or.inr ⟨o, e, ho, he, ?_⟩
      by_cases hf : s.store.freeEntries = 0
      · exact Or.inl ⟨hf, by simp [hf]⟩
      · refine Or.inr ⟨hf, _, rfl, ?_⟩
        by_cases hq : s.config.items.postCount ≤ e.header.postCount + 1
        · exact Or.inl ⟨hq, by simp [hf, hq]⟩
        · exact Or.inr ⟨hq, by simp [hf, hq]⟩

theorem captureFrame_handOver (r : Record) (s : State) : CaptureFrame s (handOver r s) := by
  rcases handOver_cases r s with h | ⟨o, e, _, _, ⟨_, h⟩ | ⟨_, s1, h1, ⟨_, h⟩ | ⟨_, h⟩⟩⟩
  · rw [h]; exact CaptureFrame.refl s
  · rw [h]; exact captureFrame_closeCurrent _ s
  · rw [h, h1]
    exact (captureFrame_setStore s _).trans ((captureFrame_closeCurrent _ _).trans (captureFrame_updateBusy _))
  · rw [h, h1]; exact (captureFrame_setStore s _).trans (captureFrame_updateBusy _)

@[simp] theorem handOver_ring (r : Record) (s : State) : (handOver r s).ring = s.ring := by
  rcases handOver_cases r s with h | ⟨o, e, _, _, ⟨_, h⟩ | ⟨_, s1, h1, ⟨_, h⟩ | ⟨_, h⟩⟩⟩ <;> simp [h] <;> rw [h1] <;> rfl

/-- With no episode open, nothing is handed over (R24). -/
theorem handOver_of_no_episode (r : Record) (s : State) (h : s.ctrl.current = none) : handOver r s = s := by
  simp [handOver, h]

/-! ### Writing -/

theorem captureFrame_writeOne (s : State) (b : RecordBody) : CaptureFrame s (writeOne s b) :=
  (captureFrame_setRing s _).trans (captureFrame_handOver _ _)

/-- A write puts its record into the ring, whatever the append does (R18, R20, R24). -/
@[simp] theorem writeOne_ring (s : State) (b : RecordBody) : (writeOne s b).ring = s.ring.put (stamp b s) := by
  simp [writeOne]

/-- With no episode open, a write changes the ring alone. -/
theorem writeOne_of_no_episode (s : State) (b : RecordBody) (h : s.ctrl.current = none) :
    writeOne s b = s.setRing (s.ring.put (stamp b s)) := by
  unfold writeOne
  exact handOver_of_no_episode _ _ (by simpa using h)

theorem captureFrame_writeAll (bs : List RecordBody) (s : State) : CaptureFrame s (writeAll bs s) := by
  unfold writeAll
  induction bs generalizing s with
  | nil => exact CaptureFrame.refl s
  | cons b bs ih => exact (captureFrame_writeOne s b).trans (ih _)

theorem captureFrame_suppressAll (f : SuppressedFlag) (cs : List OwnCause) (s : State) :
    CaptureFrame s (suppressAll f cs s) := by
  cases cs with
  | nil => exact CaptureFrame.refl s
  | cons c cs => exact (captureFrame_writeAll _ s).trans (captureFrame_raise _ _)

/-! ### Opening and originating -/

theorem captureFrame_clearCounters (s : State) :
    CaptureFrame s (clearCounters s.config.items.resetMask s) := by
  have h : CaptureFrame s (s.setCounters (clearedBy s.config.items.resetMask s.counters)) := by
    constructor <;> first | rfl | exact ⟨[], by simp⟩ | skip
    · exact BitVec.le_refl _
    · intro n
      by_cases hm : inMask s.config.items.resetMask n = true
      · exact Or.inr ⟨hm, (vecOf_get 16 _ n).trans (if_pos hm)⟩
      · exact Or.inl ((vecOf_get 16 _ n).trans (if_neg hm))
    · simp
  unfold clearCounters
  dsimp only
  split
  · exact h
  · exact h.trans (captureFrame_bring _ _)

theorem captureFrame_openIn (o : Opening) (i : Fin 8) (s : State) : CaptureFrame s (openIn o i s) := by
  unfold openIn
  dsimp only
  refine CaptureFrame.trans ?_ (captureFrame_updateBusy _)
  refine CaptureFrame.trans ?_ (captureFrame_clearCounters _)
  refine CaptureFrame.trans ?_ (captureFrame_setCtrl _ _ ?_ ?_ ?_)
  · exact (captureFrame_setStore s _).trans (captureFrame_setRing _ _)
  · rfl
  · rfl
  · exact BitVec.le_refl _

@[simp] theorem clearCounters_ring (m : Mask) (s : State) : (clearCounters m s).ring = s.ring := by
  unfold clearCounters; dsimp only; split <;> rfl

@[simp] theorem clearCounters_store (m : Mask) (s : State) : (clearCounters m s).store = s.store := by
  unfold clearCounters; dsimp only; split <;> rfl

@[simp] theorem clearCounters_ctrl (m : Mask) (s : State) : (clearCounters m s).ctrl = s.ctrl := by
  unfold clearCounters; dsimp only; split <;> rfl

@[simp] theorem clearCounters_counters (m : Mask) (s : State) :
    (clearCounters m s).counters = clearedBy m s.counters := by
  unfold clearCounters; dsimp only; split <;> rfl

/-- An opening writes its ANCHOR record into the ring (step 3 of R101). -/
@[simp] theorem openIn_ring (o : Opening) (i : Fin 8) (s : State) :
    (openIn o i s).ring = s.ring.put (stamp (.anchor o.cause o.flag) s) := by
  unfold openIn; simp [stamp]

/-- What an opening makes of the store: slot, entries and opening-order list (steps 1 to 3 of R101, R137). -/
@[simp] theorem openIn_store (o : Opening) (i : Fin 8) (s : State) :
    (openIn o i s).store =
      { s.store.setSlot i (.filling (openedEpisode o i s)) with
        freeEntries := s.store.freeEntries - (openedEpisode o i s).records.length
        order := s.store.order ++ [i] } := by
  unfold openIn; simp

/-- What the controller holds of an opened episode: its slot, claim, floor and timer (R95, step 5 of R101). -/
@[simp] theorem openIn_current (o : Opening) (i : Fin 8) (s : State) :
    (openIn o i s).ctrl.current = some { slot := i, claim := o.claim, floor := o.floor, timer := s.now } := by
  unfold openIn; simp [State.now]

@[simp] theorem openIn_highest (o : Opening) (i : Fin 8) (s : State) :
    (openIn o i s).ctrl.highest = s.ctrl.highest := by
  unfold openIn; simp

@[simp] theorem openIn_register (o : Opening) (i : Fin 8) (s : State) :
    (openIn o i s).ctrl.register = s.ctrl.register := by
  unfold openIn; simp

/-- An opening happens in a FREE slot with a free entry, or not at all (R101, R137). -/
theorem openLowest_cases (o : Opening) (s : State) :
    openLowest o s = s ∨
      ∃ i, s.store.lowestFree = some i ∧ s.store.freeEntries ≠ 0 ∧ openLowest o s = openIn o i s := by
  unfold openLowest
  split
  · exact Or.inl rfl
  · rename_i i hi
    by_cases hf : s.store.freeEntries = 0
    · exact Or.inl (by simp [hf])
    · exact Or.inr ⟨i, hi, hf, by simp [hf]⟩

theorem captureFrame_openLowest (o : Opening) (s : State) : CaptureFrame s (openLowest o s) := by
  rcases openLowest_cases o s with h | ⟨i, _, _, h⟩ <;> rw [h]
  · exact CaptureFrame.refl s
  · exact captureFrame_openIn _ _ _

theorem Word32.le_succ_of_ne_limit {n : Word32} (h : n ≠ Word32.limit) : n ≤ n + 1#32 := by
  have h1 : n.toNat ≠ 4294967295 := fun e => h (BitVec.eq_of_toNat_eq (by rw [e]; rfl))
  have h2 := n.isLt
  rw [BitVec.le_def, BitVec.toNat_add]
  show n.toNat ≤ (n.toNat + 1) % 2 ^ 32
  omega

/-- The outcomes of origination (R98): a suppression, or an opening of the next number with its TRIGGER listed. -/
theorem originate_cases (c : OwnCause × Time) (cs : List (OwnCause × Time)) (ov : Bool) (s : State) :
    (∃ f, originate c cs ov s = (suppressAll f ((c :: cs).map Prod.fst) s, .suppressed f)) ∨
      ∃ i s2, s.ctrl.highest ≠ Word32.limit ∧ s.store.lowestFree = some i ∧ s.store.freeEntries ≠ 0 ∧
        s2 = (openIn (originatorOpening (s.ctrl.highest + 1#32) s.station.address c cs ov) i
          (s.setCtrl { s.ctrl with highest := s.ctrl.highest + 1#32 })).riseOpen ∧
        originate c cs ov s = (s2.setLink { s2.link with list := { s2.link.list with trigger := true } },
          .opened i (some (s.ctrl.highest + 1#32))) := by
  unfold originate
  by_cases hl : s.ctrl.highest = Word32.limit
  · exact Or.inl ⟨.numbersExhausted, by simp [hl]⟩
  · simp only [hl, if_false]
    split
    · exact Or.inl ⟨.noSlot, rfl⟩
    · rename_i i hi
      by_cases hf : s.store.freeEntries = 0
      · exact Or.inl ⟨.noSlot, by simp [hf]⟩
      · exact Or.inr ⟨i, _, hl, hi, hf, rfl, by simp [hf]⟩

theorem captureFrame_listTrigger (s : State) :
    CaptureFrame s (s.setLink { s.link with list := { s.link.list with trigger := true } }) := by
  constructor <;> first | rfl | exact ⟨[], by simp⟩ | (intro n; exact Or.inl rfl) | simp

theorem captureFrame_originate (c : OwnCause × Time) (cs : List (OwnCause × Time)) (ov : Bool) (s : State) :
    CaptureFrame s (originate c cs ov s).1 := by
  rcases originate_cases c cs ov s with ⟨f, h⟩ | ⟨i, s2, hl, _, _, h2, h⟩
  · rw [h]; exact captureFrame_suppressAll f ((c :: cs).map Prod.fst) s
  · rw [h, h2]
    have h0 : CaptureFrame s (s.setCtrl { s.ctrl with highest := s.ctrl.highest + 1#32 }) :=
      captureFrame_setCtrl s _ rfl rfl (Word32.le_succ_of_ne_limit hl)
    exact ((h0.trans (captureFrame_openIn _ _ _)).trans (captureFrame_riseOpen _)).trans (captureFrame_listTrigger _)

/-! ### The held trigger register and its examination -/

/-- The outcomes of an examination (R124): nothing, or a release, with the station ACTIVE, no episode open and
group busy false. -/
theorem examineRegister_cases (s : State) :
    examineRegister s = s ∨
      ∃ h, s.ctrl.register = some h ∧ s.station.mode = .active ∧ s.ctrl.current = none ∧
        s.ctrl.groupBusy = false ∧
        ((h.causes = [] ∧ examineRegister s = s.setCtrl { s.ctrl with register := none }) ∨
          ∃ c cs, h.causes = c :: cs ∧
            examineRegister s = (originate c cs h.overflow (s.setCtrl { s.ctrl with register := none })).1) := by
  unfold examineRegister
  split
  · exact Or.inl rfl
  · rename_i h hr
    split
    · rename_i hc
      refine Or.inr ⟨h, hr, hc.1, hc.2.1, hc.2.2, ?_⟩
      cases hcs : h.causes with
      | nil => exact Or.inl ⟨rfl, rfl⟩
      | cons c cs => exact Or.inr ⟨c, cs, rfl, rfl⟩
    · exact Or.inl rfl

theorem captureFrame_examineRegister (s : State) : CaptureFrame s (examineRegister s) := by
  have h0 := captureFrame_setRegister s none
  rcases examineRegister_cases s with h | ⟨r, _, _, _, _, ⟨_, h⟩ | ⟨c, cs, _, h⟩⟩
  · rw [h]; exact CaptureFrame.refl s
  · rw [h]; exact h0
  · rw [h]; exact h0.trans (captureFrame_originate _ _ _ _)

/-- The station is examined for a release, or not. -/
theorem examineAfter_cases (s t : State) : examineAfter s t = t ∨ examineAfter s t = examineRegister t := by
  unfold examineAfter; split
  · exact Or.inr rfl
  · exact Or.inl rfl

theorem captureFrame_examineAfter {s t : State} (h : CaptureFrame s t) : CaptureFrame s (examineAfter s t) := by
  rcases examineAfter_cases s t with h1 | h1 <;> rw [h1]
  · exact h
  · exact h.trans (captureFrame_examineRegister t)

/-- With the register EMPTY, an examination finds nothing. -/
theorem examineAfter_of_empty (s t : State) (h : t.ctrl.register = none) : examineAfter s t = t := by
  rcases examineAfter_cases s t with h1 | h1 <;> rw [h1]
  simp [examineRegister, h]

/-- With no episode open and group busy false before, nothing calls for an examination of an unchanged view. -/
theorem examineAfter_of_calm (s t : State) (h : s.ctrl.current = none) (hb : s.ctrl.groupBusy = t.ctrl.groupBusy) :
    examineAfter s t = t := by
  simp [examineAfter, h, hb]

theorem captureFrame_write (bs : List RecordBody) (s : State) : CaptureFrame s (write bs s) :=
  captureFrame_examineAfter (captureFrame_writeAll bs s)

/-- With no episode open, writing one record changes the ring alone. -/
theorem write_one_of_no_episode (b : RecordBody) (s : State) (h : s.ctrl.current = none) :
    write [b] s = s.setRing (s.ring.put (stamp b s)) := by
  unfold write
  have hw : writeAll [b] s = s.setRing (s.ring.put (stamp b s)) := writeOne_of_no_episode s b h
  rw [hw]
  exact examineAfter_of_calm _ _ h rfl

theorem captureFrame_suppress (f : SuppressedFlag) (cs : List OwnCause) (s : State) :
    CaptureFrame s (suppress f cs s) :=
  captureFrame_examineAfter (captureFrame_suppressAll f cs s)

theorem captureFrame_closeEpisode (e : EndStatus) (s : State) : CaptureFrame s (closeEpisode e s) :=
  captureFrame_examineAfter (captureFrame_closeCurrent e s)

theorem captureFrame_evaluateGroupBusy (s : State) : CaptureFrame s (evaluateGroupBusy s) :=
  captureFrame_examineAfter (captureFrame_setCtrl s _ rfl rfl (BitVec.le_refl _))

theorem captureFrame_evaluateBusy (s : State) : CaptureFrame s (evaluateBusy s) :=
  captureFrame_examineAfter (captureFrame_updateBusy s)

/-! ### Requests -/

theorem captureFrame_mapEpisode (s : State) (f : Episode → Episode) : CaptureFrame s (s.mapEpisode f) := by
  unfold State.mapEpisode
  split
  · exact CaptureFrame.refl s
  · split
    · exact captureFrame_setStore s _
    · exact CaptureFrame.refl s
    · exact CaptureFrame.refl s

theorem captureFrame_mapHeader (s : State) (f : Header → Header) : CaptureFrame s (s.mapHeader f) :=
  captureFrame_mapEpisode s _

theorem captureFrame_mapCurrent (s : State) (f : OpenEpisode → OpenEpisode) : CaptureFrame s (s.mapCurrent f) :=
  captureFrame_setCtrl s _ rfl rfl (BitVec.le_refl _)

/-- Changing a header changes the store alone. -/
@[simp] theorem mapHeader_ring (s : State) (f : Header → Header) : (s.mapHeader f).ring = s.ring := by
  unfold State.mapHeader State.mapEpisode
  split
  · rfl
  · split <;> rfl

@[simp] theorem mapHeader_ctrl (s : State) (f : Header → Header) : (s.mapHeader f).ctrl = s.ctrl := by
  unfold State.mapHeader State.mapEpisode
  split
  · rfl
  · split <;> rfl

@[simp] theorem mapHeader_freeEntries (s : State) (f : Header → Header) :
    (s.mapHeader f).store.freeEntries = s.store.freeEntries := by
  unfold State.mapHeader State.mapEpisode
  split
  · rfl
  · split <;> rfl

theorem captureFrame_holdRequest (c : OwnCause) (t : Time) (s : State) : CaptureFrame s (holdRequest c t s).1 := by
  unfold holdRequest
  split
  · exact captureFrame_suppress _ _ s
  · split
    · exact captureFrame_setCtrl s _ rfl rfl (BitVec.le_refl _)
    · split
      · exact captureFrame_setCtrl s _ rfl rfl (BitVec.le_refl _)
      · exact captureFrame_setCtrl s _ rfl rfl (BitVec.le_refl _)

theorem captureFrame_openLocal (c : OwnCause) (t : Time) (s : State) : CaptureFrame s (openLocal c t s).1 := by
  unfold openLocal
  split
  · exact captureFrame_suppress _ _ s
  · split
    · exact captureFrame_suppress _ _ s
    · exact (captureFrame_openIn _ _ s).trans (captureFrame_riseOpen _)

theorem captureFrame_requestNoEpisode (c : OwnCause) (t : Time) (s : State) :
    CaptureFrame s (requestNoEpisode c t s).1 := by
  unfold requestNoEpisode
  split
  · exact captureFrame_openLocal c t s
  · split
    · exact captureFrame_holdRequest c t s
    · exact captureFrame_originate _ _ _ s

/-- A request leaves alone what capture leaves alone, in every case of R97. -/
theorem captureFrame_request (c : OwnCause) (t : Time) (s : State) : CaptureFrame s (request c t s).1 := by
  unfold request
  split
  · exact CaptureFrame.refl s
  · split
    · exact captureFrame_suppress _ _ s
    · split
      · rename_i e _ _
        exact captureFrame_mapHeader s (fun h => h.addCause (.own c t))
      · exact captureFrame_requestNoEpisode c t s

/-! ### Received TRIGGERs and beacon numbers -/

theorem captureFrame_raiseHighest (x : Word32) (s : State) : CaptureFrame s (raiseHighest x s) := by
  unfold raiseHighest
  split
  · rename_i h; exact captureFrame_setCtrl s _ rfl rfl (BitVec.le_of_lt h)
  · exact CaptureFrame.refl s

theorem captureFrame_writeGap (n : Nat) (s : State) : CaptureFrame s (writeGap n s) := by
  unfold writeGap
  split
  · exact CaptureFrame.refl s
  · exact (captureFrame_setGapMark s true).trans (captureFrame_writeOne _ _)

theorem captureFrame_joinEpisode (m : TriggerMessage) (s : State) : CaptureFrame s (joinEpisode m s) := by
  unfold joinEpisode
  dsimp only
  split
  · exact captureFrame_mapHeader s _
  · split
    · exact (captureFrame_mapHeader s _).trans ((captureFrame_withdraw _).trans
        ((captureFrame_mapHeader _ _).trans (captureFrame_mapCurrent _ _)))
    · exact (captureFrame_mapHeader s _).trans (captureFrame_mapHeader _ _)
    · exact captureFrame_mapHeader s _

theorem captureFrame_renumberByTrigger (m : TriggerMessage) (s : State) :
    CaptureFrame s (renumberByTrigger m s) :=
  (captureFrame_mapHeader s _).trans ((captureFrame_withdraw _).trans (captureFrame_mapCurrent _ _))

theorem captureFrame_triggerActions (c : TriggerCase) (m : TriggerMessage) (s : State) :
    CaptureFrame s (triggerActions c m s) := by
  cases c
  · exact CaptureFrame.refl s
  · exact captureFrame_joinEpisode m s
  · exact captureFrame_renumberByTrigger m s
  · exact captureFrame_closeCurrent .cutByNext s
  · exact CaptureFrame.refl s
  · exact CaptureFrame.refl s
  · exact CaptureFrame.refl s

theorem captureFrame_openFollower (m : TriggerMessage) (s : State) : CaptureFrame s (openFollower m s) :=
  (captureFrame_setRegister s none).trans (captureFrame_openLowest _ _)

theorem captureFrame_followTrigger (c : TriggerCase) (m : TriggerMessage) (s : State) :
    CaptureFrame s (followTrigger c m s) := by
  unfold followTrigger
  split
  · exact captureFrame_openFollower m s
  · exact (captureFrame_openFollower m s).trans (captureFrame_riseOpen _)

theorem captureFrame_handleTrigger (c : TriggerCase) (m : TriggerMessage) (s : State) :
    CaptureFrame s (handleTrigger c m s) := by
  unfold handleTrigger
  have h : ∀ b : RecordBody, CaptureFrame s (writeOne (writeGap (m.number.toNat -
      (triggerActions c m s).ctrl.highest.toNat - 1) (raiseHighest m.number (triggerActions c m s))) b) := fun b =>
    (captureFrame_triggerActions c m s).trans ((captureFrame_raiseHighest _ _).trans
      ((captureFrame_writeGap _ _).trans (captureFrame_writeOne _ b)))
  dsimp only
  split
  · exact (h _).trans (captureFrame_followTrigger _ m _)
  · exact h _

/-- A TRIGGER leaves alone what capture leaves alone, in every case of R104. -/
theorem captureFrame_controllerTrigger (m : TriggerMessage) (s : State) :
    CaptureFrame s (controllerTrigger m s) :=
  captureFrame_examineAfter (captureFrame_handleTrigger _ m s)

theorem captureFrame_renumberByBeacon (h : Word32) (s : State) : CaptureFrame s (renumberByBeacon h s) := by
  unfold renumberByBeacon
  split
  · split
    · split
      · split
        · exact (captureFrame_raiseHighest _ _).trans ((captureFrame_withdraw _).trans
            ((captureFrame_mapHeader _ _).trans (captureFrame_mapCurrent _ _)))
        · exact (captureFrame_raiseHighest _ _).trans (captureFrame_mapHeader _ _)
      · exact captureFrame_raiseHighest _ _
    · exact captureFrame_raiseHighest _ _
  · exact captureFrame_raiseHighest _ _

theorem captureFrame_beaconNumber (h : Word32) (s : State) : CaptureFrame s (beaconNumber h s) :=
  captureFrame_examineAfter ((captureFrame_renumberByBeacon h s).trans (captureFrame_writeGap _ _))

theorem captureFrame_discardRegister (s : State) : CaptureFrame s (discardRegister s) := by
  unfold discardRegister
  split
  · exact CaptureFrame.refl s
  · exact (captureFrame_setRegister s none).trans (captureFrame_suppress _ _ _)

theorem captureFrame_announceClaim (s : State) : CaptureFrame s (announceClaim s) := by
  unfold announceClaim
  split
  · exact CaptureFrame.refl s
  · split
    · exact (captureFrame_mapHeader s _).trans (captureFrame_mapCurrent _ _)
    · exact CaptureFrame.refl s

theorem captureFrame_claimOvertakenByMute (s : State) : CaptureFrame s (claimOvertakenByMute s) := by
  unfold claimOvertakenByMute
  split
  · split
    · split
      · exact (captureFrame_mapHeader s _).trans (captureFrame_mapCurrent _ _)
      · exact CaptureFrame.refl s
    · exact CaptureFrame.refl s
  · exact CaptureFrame.refl s

end Sys2Proof.Machine
end

