-- ==== Sys2Proof/Laws/Units.lean ====
section
/-! SUPPORT. What the trigger units do: an offer taken whole leaves alone what capture leaves alone, but for the units themselves, the offers and the free choices. -/

namespace Sys2Proof.Machine

/-- What the taking of offers leaves alone: `CaptureFrame` but for units, free choices and offers. -/
structure UnitsFrame (s t : State) : Prop where
  power : t.power = s.power
  station : t.station = s.station
  config : t.config = s.config
  lines : t.lines = s.lines
  peers : t.peers = s.peers
  time : t.time = s.time
  pending : t.pending = s.pending
  rx : t.link.rx = s.link.rx
  latch : t.link.latch = s.link.latch
  rate : t.link.rate = s.link.rate
  failures : t.link.failures = s.link.failures
  commands : t.link.list.commands = s.link.list.commands
  message : t.link.attempt.map Attempt.message = s.link.attempt.map Attempt.message
  response : t.port.response = s.port.response
  bus : t.port.bus = s.port.bus
  openRises : s.openRises ≤ t.openRises
  localHold : t.ctrl.localHold = s.ctrl.localHold
  groupHold : t.ctrl.groupHold = s.ctrl.groupHold
  highest : s.ctrl.highest ≤ t.ctrl.highest
  counters : ∀ n : Fin 16, t.counters[n] = s.counters[n] ∨
    (inMask s.config.items.resetMask n = true ∧ t.counters[n] = 0#32)
  attention : s.port.attention &&& t.port.attention = s.port.attention

theorem CaptureFrame.toUnits {s t : State} (h : CaptureFrame s t) : UnitsFrame s t :=
  { h with }

namespace UnitsFrame

theorem refl (s : State) : UnitsFrame s s := (CaptureFrame.refl s).toUnits

theorem trans {s t u : State} (h : UnitsFrame s t) (k : UnitsFrame t u) : UnitsFrame s u where
  power := k.power.trans h.power
  station := k.station.trans h.station
  config := k.config.trans h.config
  lines := k.lines.trans h.lines
  peers := k.peers.trans h.peers
  time := k.time.trans h.time
  pending := k.pending.trans h.pending
  rx := k.rx.trans h.rx
  latch := k.latch.trans h.latch
  rate := k.rate.trans h.rate
  failures := k.failures.trans h.failures
  commands := k.commands.trans h.commands
  message := k.message.trans h.message
  response := k.response.trans h.response
  bus := k.bus.trans h.bus
  openRises := Nat.le_trans h.openRises k.openRises
  localHold := k.localHold.trans h.localHold
  groupHold := k.groupHold.trans h.groupHold
  highest := BitVec.le_trans h.highest k.highest
  counters := by
    intro n
    rcases k.counters n with hk | ⟨hm, hk⟩
    · rcases h.counters n with hh | ⟨hm, hh⟩
      · exact Or.inl (hk.trans hh)
      · exact Or.inr ⟨hm, hk.trans hh⟩
    · exact Or.inr ⟨by rw [← h.config]; exact hm, hk⟩
  attention := by
    rw [← h.attention, BitVec.and_assoc, k.attention]

end UnitsFrame

theorem unitsFrame_setUnit (s : State) (k : Fin 4) (u : TriggerUnit) : UnitsFrame s (s.setUnit k u) := by
  constructor <;> first | rfl | exact BitVec.le_refl _ | (intro n; exact Or.inl rfl) | simp

theorem unitsFrame_setOffers (s : State) (x : List Offer) : UnitsFrame s (s.setOffers x) := by
  constructor <;> first | rfl | exact BitVec.le_refl _ | (intro n; exact Or.inl rfl) | simp

theorem unitsFrame_setChoice (s : State) (x : Nat) : UnitsFrame s (s.setChoice x) := by
  constructor <;> first | rfl | exact BitVec.le_refl _ | (intro n; exact Or.inl rfl) | simp

/-- A firing leaves the units alone: the count is reloaded before it (R46). -/
theorem captureFrame_fire (k : Fin 4) (s : State) : CaptureFrame s (fire k s) := by
  unfold fire
  exact (captureFrame_write _ s).trans (captureFrame_request _ _ _)

theorem unitsFrame_settleUnit (k : Fin 4) (r : ArmedUnit × Bool) (s : State) :
    UnitsFrame s (settleUnit k r s) := by
  unfold settleUnit
  dsimp only
  split
  · split
    · exact (unitsFrame_setUnit s k _).trans (captureFrame_fire k _).toUnits
    · exact unitsFrame_setUnit s k _
  · exact unitsFrame_setUnit s k _

theorem unitsFrame_unitTakes (o : Offer) (s : State) (k : Fin 4) : UnitsFrame s (unitTakes o s k) := by
  unfold unitTakes
  split
  · exact UnitsFrame.refl s
  · exact unitsFrame_settleUnit k _ s

theorem unitsFrame_takeOfferIn (order : List (Fin 4)) (o : Offer) (s : State) :
    UnitsFrame s (takeOfferIn order o s) := by
  unfold takeOfferIn
  induction order generalizing s with
  | nil => exact UnitsFrame.refl s
  | cons k order ih => exact (unitsFrame_unitTakes o s k).trans (ih _)

theorem unitsFrame_takeOffer (o : Offer) (s : State) : UnitsFrame s (takeOffer o s) :=
  (unitsFrame_setChoice s _).trans (unitsFrame_takeOfferIn _ _ _)

theorem unitsFrame_takeOffers (n : Nat) (s : State) : UnitsFrame s (takeOffers n s) := by
  induction n generalizing s with
  | zero => exact UnitsFrame.refl s
  | succ n ih =>
    unfold takeOffers
    split
    · exact UnitsFrame.refl s
    · exact (unitsFrame_setOffers s _).trans ((unitsFrame_takeOffer _ _).trans (ih _))

/-- Taking every offer that an event brought leaves alone what capture leaves alone, but for units, choices and
offers (R34, R48). -/
theorem unitsFrame_settle (s : State) : UnitsFrame s (settle s) :=
  unitsFrame_takeOffers _ s

theorem unitsFrame_expireWindow (k : Fin 4) (u : ArmedUnit) (s : State) :
    UnitsFrame s (expireWindow k u s) := by
  unfold expireWindow
  dsimp only
  split <;> exact unitsFrame_settleUnit k _ s

/-! ### Offers when no unit is armed -/

/-- In CONFIG and ROLLCALL, where every unit is DISABLED, the offers brought are dropped (R34). -/
theorem settle_of_disarmed (s : State) (h : s.units = disarmedUnits) : settle s = s.setOffers [] := by
  have ha : ∀ t : State, t.units = disarmedUnits → t.armedUnits = [] := by
    intro t ht
    unfold State.armedUnits
    rw [List.filter_eq_nil_iff]
    intro k _
    rw [ht]
    simp [disarmedUnits, TriggerUnit.isArmed]
  have hk : ∀ n (t : State), t.units = disarmedUnits → t.offers.length ≤ n → takeOffers n t = t.setOffers [] := by
    intro n
    induction n with
    | zero =>
      intro t _ hl
      have : t.offers = [] := List.length_eq_zero_iff.1 (Nat.le_zero.1 hl)
      cases t
      simp only at this
      subst this
      rfl
    | succ n ih =>
      intro t ht hl
      unfold takeOffers
      split
      · rename_i hn
        cases t
        simp only at hn
        subst hn
        rfl
      · rename_i o rest hr
        rw [takeOffer_of_none_armed o (t.setOffers rest) (ha (t.setOffers rest) ht)]
        rw [ih (t.setOffers rest) ht (by rw [hr] at hl; simpa using hl)]
        rfl
  exact hk _ s h (Nat.le_succ _)

end Sys2Proof.Machine
end

