-- ==== Sys2Proof/Laws/Group.lean ====
section
/-! SUPPORT. What holds, peers, group time, station states and the port's commands do. -/

namespace Sys2Proof.Machine

/-! ### Holds -/

/-- What a change of hold leaves alone: `UnitsFrame` but for the two holds. -/
structure HoldFrame (s t : State) : Prop where
  power : t.power = s.power
  station : t.station = s.station
  config : t.config = s.config
  lines : t.lines = s.lines
  units : t.units = s.units
  peers : t.peers = s.peers
  time : t.time = s.time
  choice : t.choice = s.choice
  pending : t.pending = s.pending
  rx : t.link.rx = s.link.rx
  latch : t.link.latch = s.link.latch
  rate : t.link.rate = s.link.rate
  failures : t.link.failures = s.link.failures
  commands : t.link.list.commands = s.link.list.commands
  message : t.link.attempt.map Attempt.message = s.link.attempt.map Attempt.message
  response : t.port.response = s.port.response
  bus : t.port.bus = s.port.bus
  openRises : s.openRises ≤ t.openRises
  highest : s.ctrl.highest ≤ t.ctrl.highest

theorem CaptureFrame.toHold {s t : State} (h : CaptureFrame s t) : HoldFrame s t :=
  { h with }

theorem HoldFrame.trans {s t u : State} (h : HoldFrame s t) (k : HoldFrame t u) : HoldFrame s u where
  power := k.power.trans h.power
  station := k.station.trans h.station
  config := k.config.trans h.config
  lines := k.lines.trans h.lines
  units := k.units.trans h.units
  peers := k.peers.trans h.peers
  time := k.time.trans h.time
  choice := k.choice.trans h.choice
  pending := k.pending.trans h.pending
  rx := k.rx.trans h.rx
  latch := k.latch.trans h.latch
  rate := k.rate.trans h.rate
  failures := k.failures.trans h.failures
  commands := k.commands.trans h.commands
  message := k.message.trans h.message
  response := k.response.trans h.response
  bus := k.bus.trans h.bus
  openRises := Nat.le_trans h.openRises k.openRises
  highest := BitVec.le_trans h.highest k.highest

theorem captureFrame_holdChanged (v : Bool) (s : State) : CaptureFrame s (holdChanged v s) := by
  unfold holdChanged
  dsimp only
  cases v
  · exact (captureFrame_raise s _).trans (captureFrame_requestBeacon _)
  · exact (captureFrame_discardRegister s).trans ((captureFrame_raise _ _).trans (captureFrame_requestBeacon _))

theorem holdFrame_setHolds (s : State) (l g : Bool) :
    HoldFrame s (s.setCtrl { s.ctrl with localHold := l, groupHold := g }) := by
  constructor <;> first | rfl | exact BitVec.le_refl _

theorem holdFrame_setLocalHold (v : Bool) (s : State) : HoldFrame s (setLocalHold v s) := by
  unfold setLocalHold
  split
  · exact (CaptureFrame.refl s).toHold
  · exact (holdFrame_setHolds s v s.ctrl.groupHold).trans (captureFrame_holdChanged v _).toHold

theorem holdFrame_setGroupHold (v : Bool) (s : State) : HoldFrame s (setGroupHold v s) := by
  unfold setGroupHold
  split
  · exact (CaptureFrame.refl s).toHold
  · exact (holdFrame_setHolds s s.ctrl.localHold v).trans (captureFrame_holdChanged v _).toHold

/-- SET LOCAL HOLD leaves the local hold at its value and the group hold as it was (R129). -/
theorem setLocalHold_holds (v : Bool) (s : State) :
    (setLocalHold v s).ctrl.localHold = v ∧ (setLocalHold v s).ctrl.groupHold = s.ctrl.groupHold := by
  unfold setLocalHold
  split
  · rename_i h; exact ⟨h, rfl⟩
  · exact ⟨(captureFrame_holdChanged v _).localHold, (captureFrame_holdChanged v _).groupHold⟩

/-- HOLD and RESUME leave the group hold at their value and the local hold as it was (R130). -/
theorem setGroupHold_holds (v : Bool) (s : State) :
    (setGroupHold v s).ctrl.groupHold = v ∧ (setGroupHold v s).ctrl.localHold = s.ctrl.localHold := by
  unfold setGroupHold
  split
  · rename_i h; exact ⟨h, rfl⟩
  · exact ⟨(captureFrame_holdChanged v _).groupHold, (captureFrame_holdChanged v _).localHold⟩

/-! ### Peers -/

@[simp] theorem State.peer_setPeer_self (s : State) (a : Address) (e : PeerEntry) : (s.setPeer a e).peer a = e := by
  simp [State.peer, State.setPeer, State.setPeers]

theorem State.peer_setPeer_ne (s : State) {a b : Address} (e : PeerEntry) (h : a ≠ b) :
    (s.setPeer a e).peer b = s.peer b := by
  have hv : a.toNat ≠ b.toNat := fun k => h (BitVec.eq_of_toNat_eq k)
  simp [State.peer, State.setPeer, State.setPeers, Vector.getElem_set_ne, hv]

/-- A peer that is heard has its entry PRESENT and heard now, and no other entry changes (R73). -/
@[simp] theorem hearPeer_peers (a : Address) (s : State) :
    (hearPeer a s).peers =
      (s.setPeer a { s.peer a with state := .present, lastHeard := some s.now }).peers := by
  unfold hearPeer
  dsimp only
  split
  · rfl
  · rfl
  · exact (captureFrame_write _ _).peers

/-- A valid message of a peer that is not LOST changes the peer table alone (R73). -/
theorem hearPeer_of_not_lost (a : Address) (s : State) (h : (s.peer a).state ≠ .lost) :
    hearPeer a s = s.setPeer a { s.peer a with state := .present, lastHeard := some s.now } := by
  unfold hearPeer
  dsimp only
  split
  · rfl
  · rfl
  · exact absurd ‹_› h

@[simp] theorem hearPeer_time (a : Address) (s : State) : (hearPeer a s).time = s.time := by
  unfold hearPeer
  dsimp only
  split
  · rfl
  · rfl
  · exact (captureFrame_write _ _).time

@[simp] theorem hearPeer_station (a : Address) (s : State) : (hearPeer a s).station = s.station := by
  unfold hearPeer
  dsimp only
  split
  · rfl
  · rfl
  · exact (captureFrame_write _ _).station

@[simp] theorem hearPeer_config (a : Address) (s : State) : (hearPeer a s).config = s.config := by
  unfold hearPeer
  dsimp only
  split
  · rfl
  · rfl
  · exact (captureFrame_write _ _).config

/-- What a BEACON makes of the peer table (R74). -/
@[simp] theorem noteBeacon_peers (before : PeerEntry) (m : BeaconMessage) (s : State) :
    (noteBeacon before m s).peers = (s.setPeer m.sender ((s.peer m.sender).beacon m)).peers := by
  unfold noteBeacon
  dsimp only
  split
  · rfl
  · split
    · rfl
    · exact (captureFrame_write _ _).peers

@[simp] theorem noteBeacon_time (before : PeerEntry) (m : BeaconMessage) (s : State) :
    (noteBeacon before m s).time = s.time := by
  unfold noteBeacon
  dsimp only
  split
  · rfl
  · split
    · rfl
    · exact (captureFrame_write _ _).time

/-! ### Group time -/

theorem le_steppedTime (g l t : Time) : g ≤ steppedTime g l t := by
  unfold steppedTime
  split
  · have h1 := g.isLt
    have h2 : Time.limit.toNat = 2 ^ 48 - 1 := rfl
    rw [BitVec.le_def, BitVec.toNat_ofNat, h2]
    rw [Nat.mod_eq_of_lt (by omega)]
    omega
  · exact BitVec.le_refl _

/-- A beacon's time lowers neither clock: local elapsed time is untouched, and group time rises by the step, which
is 0 or at least 3 µs (R89). -/
theorem stepTime_time (a : Address) (l t : Time) (s : State) :
    (stepTime a l t s).time.elapsed = s.time.elapsed ∧
      (stepTime a l t s).time.group =
        if stepSize s.time.group l t < 3 then s.time.group else steppedTime s.time.group l t := by
  unfold stepTime
  by_cases h : stepSize s.time.group l t < 3
  · simp [h]
  · simp only [h, if_false]
    rw [(captureFrame_write _ _).time, (captureFrame_mapHeader _ _).time]
    exact ⟨rfl, rfl⟩

@[simp] theorem stepTime_peers (a : Address) (l t : Time) (s : State) : (stepTime a l t s).peers = s.peers := by
  unfold stepTime
  dsimp only
  split
  · rfl
  · rw [(captureFrame_write _ _).peers, (captureFrame_mapHeader _ _).peers]
    rfl

/-! ### Station states -/

/-- What the entry to ROLLCALL sets (R79). -/
theorem enterRollCall_sets (s : State) :
    (enterRollCall s).station.mode = .rollCall ∧ (enterRollCall s).units = disarmedUnits ∧
      (enterRollCall s).peers.beaconTimer = none ∧ (enterRollCall s).peers.rollCallTimer = some s.now ∧
      (enterRollCall s).peers.holdMark = false ∧ (enterRollCall s).link = s.link.requestBeacon := by
  simp [enterRollCall, disarmUnits, Mode.transmits, State.now]

/-- Handing on the hold mark leaves the mark clear and changes the peer monitor in nothing else (R82). -/
@[simp] theorem handOnHoldMark_peers (s : State) :
    (handOnHoldMark s).peers = { s.peers with holdMark := false } := by
  unfold handOnHoldMark
  dsimp only
  split
  · exact (holdFrame_setGroupHold true _).peers
  · rfl

@[simp] theorem handOnHoldMark_station (s : State) : (handOnHoldMark s).station = s.station := by
  unfold handOnHoldMark
  dsimp only
  split
  · exact (holdFrame_setGroupHold true _).station
  · rfl

@[simp] theorem handOnHoldMark_config (s : State) : (handOnHoldMark s).config = s.config := by
  unfold handOnHoldMark
  dsimp only
  split
  · exact (holdFrame_setGroupHold true _).config
  · rfl

/-- The station is MUTE with its reason after the entry (R84). -/
@[simp] theorem enterMute_mode (r : MuteReason) (s : State) : (enterMute r s).station.mode = .mute r := by
  unfold enterMute
  dsimp only
  rw [(captureFrame_claimOvertakenByMute _).station]
  split <;> split <;> simp [armUnits]

@[simp] theorem enterMute_config (r : MuteReason) (s : State) : (enterMute r s).config = s.config := by
  unfold enterMute
  dsimp only
  rw [(captureFrame_claimOvertakenByMute _).config]
  split <;> split <;> simp [armUnits]

/-! ### Transactions -/

/-- A transaction answers a next state: the command's state, or no more than its end where it is discarded or the station
takes none (R152, R161). -/
theorem transact_eq (f : State → State) (s : State) :
    transact f s =
      .next (if s.port.bus ≠ .cutOff ∧ (s.running || s.releasing) then f s else s.endTransaction) := by
  unfold transact; split <;> rfl

/-- A station that takes events has the command's effect, unless the transaction is one to be discarded (R163). -/
theorem transact_of_running {f : State → State} {s : State} (hr : s.running = true) (hb : s.port.bus ≠ .cutOff) :
    transact f s = .next (f s) := by
  simp [transact_eq, hr, hb]

/-- A transaction that is discarded, or that a held station does not take, ends and does no more (R161). -/
theorem transact_of_discarded {f : State → State} {s : State}
    (h : s.port.bus = .cutOff ∨ (s.running || s.releasing) = false) : transact f s = .next s.endTransaction := by
  rw [transact_eq, if_neg]
  rintro ⟨hb, hr⟩
  rcases h with h | h
  · exact hb h
  · exact absurd (h.symm.trans hr) Bool.false_ne_true

@[simp] theorem State.endTransaction_bus (s : State) : s.endTransaction.port.bus = .idle := rfl

@[simp] theorem State.answer_bus (s : State) (r : Response) : (s.answer r).port.bus = .idle := rfl

@[simp] theorem State.answer_response (s : State) (r : Response) : (s.answer r).port.response = r := rfl

@[simp] theorem State.result_response (s : State) (r : Result) :
    (s.result r).port.response = { result := r, body := .empty } := rfl

/-! ### The store at a release and at a close -/

theorem Store.release_slot_self (st : Store) (i : Fin 8) (e : Episode) : (st.release i e).slot i = .free := by
  simp [Store.slot, Store.release]

theorem Store.release_slot_ne (st : Store) {i j : Fin 8} (e : Episode) (h : i ≠ j) :
    (st.release i e).slot j = st.slot j := by
  have hv : i.val ≠ j.val := fun k => h (Fin.ext k)
  simp [Store.slot, Store.release, Vector.getElem_set_ne, hv]

/-- A close changes the state and the end status of a FILLING slot, and nothing else in the store (R140). -/
theorem Store.complete_of_filling {st : Store} {i : Fin 8} {ep : Episode} (h : st.slot i = .filling ep)
    (e : EndStatus) :
    st.complete i e = st.setSlot i (.complete { ep with header := { ep.header with endStatus := some e } }) := by
  simp [Store.complete, h]

@[simp] theorem Store.complete_freeEntries (st : Store) (i : Fin 8) (e : EndStatus) :
    (st.complete i e).freeEntries = st.freeEntries := by
  unfold Store.complete; split <;> rfl

@[simp] theorem Store.complete_order (st : Store) (i : Fin 8) (e : EndStatus) :
    (st.complete i e).order = st.order := by
  unfold Store.complete; split <;> rfl

end Sys2Proof.Machine
end

