-- ==== Sys2Proof/Tests/Slice0.lean ====
section
/-! SUPPORT. The tests: ill-formed commands refused, small runs of the meanings, and for every statement with hypotheses a state and operands that meet them. -/

namespace Sys2Proof.Machine.Tests

open Sys2Proof Sys2Proof.Machine Sys2Proof.Machine.Claims

/-! ### Small states -/

/-- The station of address 5 in a station state, its line free and its window as that state has it. -/
def station (m : Mode) : State :=
  { State.reset with
    station := { mode := m, saPins := 5#5, address := 5#5 }
    config := { State.reset.config with window := if m = .config then .isOpen else .closed }
    link := { State.reset.link with rx := .idle } }

/-- The same state at a later moment. -/
def later (t : Nat) (s : State) : State :=
  { s with time := { s.time with elapsed := t } }

/-- The same state with other configuration items. -/
def withItems (f : Settings → Settings) (s : State) : State :=
  { s with config := { s.config with items := f s.config.items } }

/-- The same state with another controller. -/
def withCtrl (f : Controller → Controller) (s : State) : State :=
  { s with ctrl := f s.ctrl }

/-- The same state with another transceiver. -/
def withLink (f : Link → Link) (s : State) : State :=
  { s with link := f s.link }

/-- The same state with a ring of these records. -/
def withRing (n : Nat) (c : Cursor) (s : State) : State :=
  { s with ring :=
    { records := (List.range n).map (fun i => { seq := BitVec.ofNat 16 i, time := 0#48, body := .wrap 0 })
      nextSeq := BitVec.ofNat 16 n, cursor := c } }

/-- An episode of number `n` that has just opened in slot 0. -/
def episode (n : Option Word32) : Episode :=
  { header :=
      { slot := 0, number := n, role := .originator, originator := some 5#5, anchorTime := 0#48
        originTime := none, causes := [.own .software 0#48], preCount := 0, postCount := 0, snapshot := []
        endStatus := none
        flags := { gapBefore := false, timeStepped := false, causesOverflow := false, truncatedPre := false } }
    records := [{ seq := 0#16, time := 0#48, body := .anchor (.own .software) .origin }] }

/-- A store whose slot 0 is this one, holding one record. -/
def storeWith (x : Slot) : Store :=
  { emptyStore with slots := emptyStore.slots.set 0 x, freeEntries := 1023, order := [0] }

/-- The same state with episode 7 open in slot 0. -/
def capturing (n : Option Word32) (c : Claim) (s : State) : State :=
  { s with
    ctrl := { s.ctrl with highest := 7#32, current := some { slot := 0, claim := c, floor := none, timer := 0 } }
    store := storeWith (.filling (episode n)) }

/-- The same state with slot 0 COMPLETE. -/
def filed (s : State) : State :=
  { s with store := storeWith (.complete (episode (some 7#32))) }

/-- The same state with a full store. -/
def full (s : State) : State :=
  { s with store := { emptyStore with slots := Vector.replicate 8 (.complete (episode none)) } }

/-- The same state while a peer's message is being assembled. -/
def hearing (s : State) : State :=
  withLink (fun l => { l with rx := .receiving, latch := some 0#48 }) s

/-- The same state while this message is the attempt. -/
def sending (m : Message) (s : State) : State :=
  withLink (fun l => { l with
    rx := .receiving, latch := some 0#48, attempt := some { message := m, withdrawn := false } }) s

/-- The same state with an OCCUPIED register. -/
def holding (s : State) : State :=
  withCtrl (fun c => { c with
    register := some { causes := [(.software, 0#48)], since := 0, overflow := false } }) s

/-- The same state with a hold set. -/
def held (s : State) : State :=
  withCtrl (fun c => { c with groupHold := true }) s

/-- The settings of that unit. -/
def twoLines (c : Combinator) : UnitSettings :=
  { enable := true, condA := .line 0 .rise, condB := .line 1 .rise, combinator := c, window := 100, count := 2 }

/-- The same state with unit 0 armed under this combinator, waiting on line 0 and line 1, one satisfaction short of
firing. -/
def armed (c : Combinator) (p : UnitPhase) (s : State) : State :=
  (withItems (fun x => { x with units := x.units.set 0 (twoLines c) }) s).setUnits (disarmedUnits.set 0 (.armed
    { phase := p, remaining := 1, lastA := none, lastB := none, compareA := none, compareB := none }))

/-- A TRIGGER of peer 9. -/
def trigger (n : Word32) : TriggerMessage :=
  { sender := 9#5, number := n, originTime := 3#48, cause := .software }

/-- A BEACON of peer 9. -/
def beacon (t : Time) (h : Word32) : BeaconMessage :=
  { sender := 9#5, time := t, highest := h, interval := 10#8, busy := false, groupHold := false
    localHold := false, rollCall := none }

/-- The answer of a command as an option; a stop gives none. -/
def next (c : Instr) (s : State) : Option State :=
  match exec c s with
  | .next t => some t
  | .fault _ => none
  | .refused _ => none

/-! ### Ill-formed commands are refused -/

theorem test_trigger_of_sender_0_is_refused :
    (Instr.triggerReceived { trigger 1#32 with sender := 0#5 }).wellFormed = false := by decide
theorem test_trigger_of_number_0_is_refused : (Instr.triggerReceived (trigger 0#32)).wellFormed = false := by decide
theorem test_beacon_of_sender_0_is_refused :
    (Instr.beaconReceived { beacon 0#48 0#32 with sender := 0#5 }).wellFormed = false := by decide
theorem test_beacon_of_interval_0_is_refused :
    (Instr.beaconReceived { beacon 0#48 0#32 with interval := 0#8 }).wellFormed = false := by decide
theorem test_clear_of_sender_0_is_refused : (Instr.clearCountersReceived 0#5 1#16).wellFormed = false := by decide
theorem test_hold_of_sender_0_is_refused : (Instr.holdReceived 0#5).wellFormed = false := by decide
theorem test_resume_of_sender_0_is_refused : (Instr.resumeReceived 0#5).wellFormed = false := by decide
theorem test_silence_of_address_0_is_refused : (Instr.silenceTimerExpiry 0#5).wellFormed = false := by decide
theorem test_trigger_is_well_formed : (Instr.triggerReceived (trigger 1#32)).wellFormed = true := by decide
theorem test_no_bits_spell_a_command : decodeTableWord 8 1 = none := by decide
theorem test_status_transaction : commandOfTransaction 5#5 [1#8] = .status := by decide
theorem test_write_of_P_transaction :
    commandOfTransaction 5#5 [2#8, 3#8, 0#8, 0#8, 0#8, 0#8, 7#8, 0#8, 0#8, 0#8]
      = .writeConfig 3#8 0#8 0x00000007000000#56 := by decide
theorem test_short_write_transaction : commandOfTransaction 5#5 [2#8, 3#8, 0#8] = .shortTransaction := by decide

/-! ### Small runs, one command each -/

theorem test_counting_edge_at_time_0 :
    let s := withItems (fun x => { x with qualTime := Vector.replicate 16 0 }) (station .active)
    (next (.linePinChange 3 .high) s).map (fun t => (t.counters[3], t.ring.records.map Record.body))
      = some (1#32, [.edge 3 1#32 .rise]) := by decide

theorem test_pin_change_is_timed :
    (next (.linePinChange 3 .high) (later 40 (station .active))).map (fun t => t.line 3)
      = some { pin := .high, level := .low, phase := .pending 40 10 } := by decide

theorem test_wrap_follows_edge :
    let s := withItems (fun x => { x with qualTime := Vector.replicate 16 0 }) (station .active)
    (next (.linePinChange 0 .high) { s with counters := s.counters.set 0 4294967295#32 }).map
        (fun t => (t.counters[0], t.ring.records.map Record.body))
      = some (0#32, [.edge 0 0#32 .rise, .wrap 0]) := by decide

theorem test_software_trigger_opens_number_1 :
    (next .softwareTrigger (station .active)).map (fun t =>
        (t.port.response.body, t.ctrl.highest, t.link.list.trigger, t.openPin))
      = some (.software (.opened 0 (some 1#32)) 0#48, 1#32, true, .high) := by decide

theorem test_attempt_announces_the_number :
    (next .attemptStart (withLink (fun l => { l with list := { l.list with trigger := true } })
        (capturing (some 7#32) .unannounced (station .active)))).map (fun t => t.link.attempt)
      = some (some { message := .trigger { sender := 5#5, number := 7#32, originTime := 0#48, cause := .software }
                     withdrawn := false }) := by decide

theorem test_follower_opens_on_a_higher_trigger :
    (next (.triggerReceived (trigger 3#32)) (hearing (station .active))).map (fun t =>
        (t.ctrl.highest, t.ring.records.map Record.body, t.ctrl.current.map OpenEpisode.claim))
      = some (3#32, [.gap 2#32, .remoteTrigger 9#5 3#32 none, .anchor .remote .follow], some .learned) := by decide

theorem test_firing_unit_originates :
    let s := withItems (fun x => { x with qualTime := Vector.replicate 16 0 })
      (armed .any .waitA (station .active))
    (next (.linePinChange 0 .high) s).map (fun t => t.ring.records.map Record.body)
      = some [.edge 0 1#32 .rise, .fire 0 2, .anchor (.own (.unit 0)) .origin] := by decide

theorem test_beacon_steps_group_time :
    (next (.beaconReceived (beacon 1000#48 0#32)) (hearing (station .active))).map (fun t =>
        (t.time.group, t.ring.records.map Record.body))
      = some (1000#48, [.timeStep 9#5 1000#48]) := by decide

theorem test_close_config_begins_roll_call :
    (next .closeConfig (station .config)).map (fun t => (t.station.mode, t.link.rx, t.link.list.beacon))
      = some (.rollCall, .waitFree, .listed) := by decide

theorem test_status_has_30_bytes :
    (next .status (station .active)).map (fun t => t.port.response.bytes.length) = some 31 := by decide

theorem test_tick_queues_the_expiry :
    let s := later 9 (station .active)
    let x : LineInput := { pin := .high, level := .low, phase := .pending 0 10 }
    (match step (s.setLine 2 x) with
      | .next t => t.pending
      | .fault _ => []
      | .refused _ => []) = [.qualificationTimerExpiry 2] := by decide

theorem test_close_and_release_raise_OPEN_anew :
    (next .postTimeExpiry { holding (later 100000 (capturing (some 7#32) .announced (station .active))) with
        openRises := 1 }).map (fun t => (t.openPin, t.openRises)) = some (.high, 2) := by decide

theorem test_cut_keeps_OPEN_high :
    (next (.triggerReceived (trigger 8#32)) { hearing (capturing (some 7#32) .announced (station .active)) with
        openRises := 1 }).map (fun t => (t.openPin, t.openRises, t.ctrl.current.map OpenEpisode.slot))
      = some (.high, 1, some 1) := by decide

/-- The state while RESET is low, with these commands waiting. -/
def lowReset (waiting : List Instr) (s : State) : State :=
  { s with power := { s.power with resetPin := .low }, pending := waiting }

theorem test_release_at_the_release_of_RESET_is_taken_first :
    (next (.releaseEpisode 0#8) (lowReset [.hardRestart 5#5] (filed (station .active)))).map (fun t => t.store.slot 0)
      = some .free := by decide

theorem test_release_in_reset_is_discarded :
    (next (.releaseEpisode 0#8) (lowReset [] (filed (station .active)))).map (fun t => t.store.freeEntries)
      = some 1023 := by decide

theorem test_transaction_begun_before_RESET_is_discarded :
    (((next .resetLow (station .active).beginTransaction).bind (next (.hardRestart 5#5))).bind (next .status)).map
      (fun t => (t.port.response.result, t.port.bus)) = some (.noneYet, .idle) := by decide

theorem test_transaction_begun_in_reset_is_taken :
    ((((next .resetLow (station .active)).map State.beginTransaction).bind (next (.hardRestart 5#5))).bind
      (next .status)).map (fun t => (t.port.response.result, t.port.bus)) = some (.ok, .idle) := by decide

theorem test_SDO_is_driven_while_CS_is_low :
    State.reset.sdo 7 = none ∧ State.reset.beginTransaction.sdo 7 = some true ∧
      (next .status State.reset.beginTransaction).map State.csPin = some .high := by decide

theorem test_rising_edges_sample_SDI :
    sampledBits .low [(.high, true), (.low, false), (.high, false), (.high, true), (.low, true), (.high, true)]
      = [true, false, true] := by decide

/-- The assembly on a free line. -/
def onFreeLine : LineReader := { rx := .idle, recessive := 11, raw := [] }

theorem test_count_begins_at_a_recessive_fill_violation :
    (onFreeLine.readAll (false :: List.replicate 14 true)).2 = [.started, .ended .abandoned] ∧
      (onFreeLine.readAll (false :: List.replicate 15 true)).2 = [.started, .ended .abandoned, .free] := by decide

theorem test_class_3_is_abandoned_after_the_arbitration_field :
    (onFreeLine.readAll [false, true, true, false, true, false, true]).2 = [.started] ∧
      (onFreeLine.readAll [false, true, true, false, true, false, true, false]).2 = [.started, .ended .abandoned] := by
  decide

/-! ### States and operands that meet the hypotheses of the statements -/

/-- A running station takes the transactions that complete. -/
theorem listens_of_running {s : State} (hr : s.running = true) (hb : s.port.bus ≠ .cutOff) : Listens s :=
  ⟨hb, Or.inl hr⟩

/-- A held station takes the transaction that completes with the release of RESET. -/
theorem witness_ListensAtRelease : Listens (lowReset [.hardRestart 5#5] (filed (station .active))) :=
  ⟨by decide, Or.inr ⟨by decide, by decide, 5#5, [], rfl⟩⟩

theorem witness_StepRunsFrontCommand : ({ State.reset with pending := [.status] } : State).pending = .status :: [] := by
  decide

theorem witness_EmptyQueueTicks :
    State.reset.pending = [] ∧ State.reset.power.supply = true ∧
      ({ State.reset with power := { State.reset.power with supply := false } } : State).power.supply = false := by
  decide

/-- The station while RESET is low. -/
def inReset : State := { State.reset with power := { State.reset.power with resetPin := .low } }

theorem witness_HeldStation :
    (inReset.running = false ∧ actsWhileHeld .lineFree = false ∧ ¬ Transacts .lineFree) ∧
      (Transacts .status ∧ inReset.running = false ∧ ¬ AtRelease inReset ∧
        ({ inReset with port := { inReset.port with bus := .cutOff } } : State).port.bus = .cutOff) := by
  refine ⟨⟨by decide, by decide, ?_⟩, Or.inl (by decide), by decide, ?_, by decide⟩
  · rintro (h | h | h)
    · exact h rfl
    · exact nomatch h
    · exact nomatch h
  · rintro ⟨_, _, sa, rest, h⟩
    exact nomatch h

theorem witness_RingAndTimeKept : State.reset.ring.Numbered ∧ State.reset.ring.CursorSound ∧
    State.reset.ring.Timed State.reset.time.group ∧ TimeSound State.reset ∧
    step State.reset = .next (tick State.reset) := by
  unfold Ring.Numbered Ring.CursorSound Ring.Timed TimeSound
  refine ⟨⟨by decide, fun k h => absurd h (by simp [State.reset, State.afterPower, emptyRing])⟩, trivial, ⟨by decide, by decide⟩, by decide, rfl⟩

theorem witness_ClocksAndNumber : (∀ a, Instr.status ≠ .powerRestart a) ∧ Instr.status ≠ .supplyLoss ∧
    (∀ a, Instr.status = .hardRestart a → State.reset.power.powerOnRelease = false) ∧
    (next .status State.reset).isSome = true := by
  exact ⟨fun a h => Instr.noConfusion h, fun h => Instr.noConfusion h, fun a h => Instr.noConfusion h, by decide⟩

theorem witness_PoolBalance : State.reset.store.Balanced := by unfold Store.Balanced; decide

theorem witness_StoreContents : State.reset.store.OrderSound ∧ State.reset.store.SelectionSound ∧
    State.reset.store.Ordered ∧ CausesBounded State.reset := by
  have hf : ∀ i, State.reset.store.slot i = .free := by decide
  refine ⟨⟨by decide, by decide⟩, trivial, ?_, ?_, ?_⟩
  · intro i e h; rw [hf i] at h; exact nomatch h
  · intro i e h; rw [hf i] at h; exact nomatch h
  · intro h hr; exact nomatch hr

theorem witness_OpenSlotAndNumbers : OpenSlotSound State.reset ∧ NumbersSound State.reset := by
  have hf : ∀ i, State.reset.store.slot i = .free := by decide
  have hn : ∀ i, State.reset.store.numberAt i = none := by decide
  refine ⟨?_, ?_, ?_, ?_⟩
  · intro i
    constructor
    · intro ⟨e, he⟩; rw [hf i] at he; exact nomatch he
    · intro h; exact nomatch h
  · intro i j n h; rw [hn i] at h; exact nomatch h
  · intro i n h; rw [hn i] at h; exact nomatch h
  · intro o h; exact nomatch h

theorem witness_StationStatesAndList : WindowSound State.reset ∧ DisarmedSound State.reset ∧
    OffersTaken State.reset ∧ LinkSound State.reset := by
  unfold WindowSound DisarmedSound OffersTaken LinkSound SilentSound LinkBounded
  decide

theorem witness_HoldAndBusy : HoldSound State.reset ∧ BusySound State.reset ∧ GroupBusySound State.reset := by
  refine ⟨by unfold HoldSound; decide, by unfold BusySound; decide, ?_, by decide⟩
  intro a _
  have : (State.reset.peer a) = absentPeer := by
    simp [State.peer, State.reset, State.afterPower, restartedPeers]
  rw [this]; rfl

theorem witness_PowerRestart : State.reset.power.resetPin = .high ∧ State.reset.lines.veto.pin = .low ∧
    ({ State.reset with lines := { State.reset.lines with veto := { State.reset.lines.veto with pin := .high } } }
      : State).lines.veto.pin = .high ∧
    inReset.power.resetPin = .low ∧
    (let s : State := { inReset with power := { inReset.power with powerOnRelease := true } }
     s.power.supply = true ∧ s.power.powerOnRelease = true) := by decide

theorem test_supply_rising_under_RESET_is_a_power_restart_at_its_release :
    ((next (.powerRestart 5#5) inReset).bind (next (.hardRestart 9#5))).map
      (fun t => (t.running, t.peers.restartCause, t.station.address, t.power.powerOnRelease))
      = some (true, .power, 9#5, false) := by decide

theorem witness_ResetLow : State.reset.running = true := by decide

theorem witness_HardRestart : inReset.power.supply = true ∧ inReset.power.powerOnRelease = false ∧
    OpenSlotSound inReset :=
  ⟨by decide, by decide, witness_OpenSlotAndNumbers.1⟩

theorem witness_SoftRestart : Listens (station .active) ∧ (station .active).station.mode ≠ .config ∧
    OpenSlotSound (station .active) ∧ Listens (station .config) ∧ (station .config).station.mode = .config :=
  ⟨listens_of_running (by decide) (by decide), by decide, witness_OpenSlotAndNumbers.1,
    listens_of_running (by decide) (by decide), by decide⟩

/-- Line 0 of this input, in ACTIVE, 10 µs after the start. -/
def lineAt (x : LineInput) : State := (later 10 (station .active)).setLine 0 x

/-- Line 0 about to become HIGH. -/
def rising : LineInput := { pin := .high, level := .low, phase := .pending 0 10 }

/-- Qualification times of 0. -/
def atOnce (s : State) : State := withItems (fun x => { x with qualTime := Vector.replicate 16 0 }) s

/-- Line 0 in the veto mask, and VETO ACTIVE. -/
def vetoing (s : State) : State :=
  withItems (fun x => { x with vetoMask := 1#16 })
    { s with lines := { s.lines with veto := { pin := .high, level := .high, phase := .steady } } }

theorem witness_LinePinIsTimedAndVetoed :
    (Ready (station .active) ∧ Level.low = ((station .active).line 0).pin ∧
      Level.high ≠ ((station .active).line 0).pin ∧ ((station .active).line 0).phase = .steady ∧
      Level.high ≠ ((station .active).line 0).level ∧ (station .active).config.items.qualTime[0] ≠ 0) ∧
    (Ready (lineAt rising) ∧ Level.low ≠ ((lineAt rising).line 0).pin ∧
      ((lineAt rising).line 0).phase = .pending 0 10 ∧ Level.low = ((lineAt rising).line 0).level) ∧
    (Ready (vetoing (lineAt rising)) ∧ Vetoed 0 (vetoing (lineAt rising)) ∧
      ((vetoing (lineAt rising)).line 0).phase = .pending 0 10 ∧ 10 ≤ (vetoing (lineAt rising)).now - 0) ∧
    (let s := atOnce (vetoing (station .active))
     Ready s ∧ Vetoed 0 s ∧ Level.high ≠ (s.line 0).pin ∧ (s.line 0).phase = .steady ∧
      Level.high ≠ (s.line 0).level ∧ s.config.items.qualTime[0] = 0) := by
  unfold Ready OffersTaken Vetoed
  decide

theorem witness_QualifiedEdge :
    (Ready (lineAt rising) ∧ (lineAt rising).ctrl.current = none ∧ (lineAt rising).units = disarmedUnits ∧
      ¬ Vetoed 0 (lineAt rising) ∧ ((lineAt rising).line 0).phase = .pending 0 10 ∧
      10 ≤ (lineAt rising).now - 0) ∧
    (let s := atOnce (station .active)
     Ready s ∧ s.ctrl.current = none ∧ s.units = disarmedUnits ∧ ¬ Vetoed 0 s ∧ Level.high ≠ (s.line 0).pin ∧
      (s.line 0).phase = .steady ∧ Level.high ≠ (s.line 0).level ∧ s.config.items.qualTime[0] = 0) := by
  unfold Ready OffersTaken Vetoed
  decide

/-- VETO in this phase, 10 µs after the start. -/
def vetoAt (p : Level) (x : Phase) : State :=
  (later 10 (station .active)).setVeto { pin := p, level := .low, phase := x }

theorem witness_VetoIsTimed :
    (Ready (vetoAt .low .steady) ∧ Level.low = (vetoAt .low .steady).lines.veto.pin ∧
      Level.high ≠ (vetoAt .low .steady).lines.veto.pin ∧ (vetoAt .low .steady).lines.veto.phase = .steady ∧
      Level.high ≠ (vetoAt .low .steady).lines.veto.level) ∧
    (let s := vetoAt .high (.pending 0 10)
     Ready s ∧ Level.low ≠ s.lines.veto.pin ∧ s.lines.veto.phase = .pending 0 10 ∧ Level.low = s.lines.veto.level ∧
      s.ctrl.current = none ∧ 10 ≤ s.now - 0) := by
  unfold Ready OffersTaken
  decide

theorem witness_WriteEntersTheRing :
    (withRing 0 .notStarted State.reset).ring.records.length ≤ 256 ∧
      (withRing 2 (.waiting 2#16) State.reset).ring.cursor = .waiting 2#16 ∧
      (withRing 2 (.lost 0#16) State.reset).ring.cursor = .lost 0#16 ∧
      (withRing 256 (.valid 0#16) State.reset).ring.records.length = 256 ∧
      (withRing 256 (.valid 0#16) State.reset).ring.cursor = .valid 0#16 ∧
      (withRing 256 (.valid 0#16) State.reset).ring.records.head?.map Record.seq = some 0#16 := by
  refine ⟨by decide, by decide, by decide, ?_, by rfl, ?_⟩
  · simp [withRing]
  · rfl

theorem witness_ReadHistory :
    Listens (withRing 2 .notStarted State.reset) ∧
      (∃ rec rest, (withRing 2 .notStarted State.reset).ring.records = rec :: rest) ∧
      State.reset.ring.records = [] :=
  ⟨listens_of_running (by decide) (by decide), ⟨_, _, rfl⟩, by decide⟩

theorem witness_ReadHistoryNext :
    Listens (withRing 2 .notStarted State.reset) ∧ (0#8).toNat = 0 ∧ 16 < (17#8).toNat ∧ 1 ≤ (1#8).toNat ∧ (16#8).toNat ≤ 16 ∧
      (withRing 2 .notStarted State.reset).ring.cursor = .notStarted ∧
      (withRing 2 (.waiting 2#16) State.reset).ring.cursor = .waiting 2#16 ∧
      ((withRing 2 (.lost 0#16) State.reset).ring.cursor = .lost 0#16 ∧
        ∃ rec rest, (withRing 2 (.lost 0#16) State.reset).ring.records = rec :: rest) ∧
      ((withRing 2 (.valid 1#16) State.reset).ring.cursor = .valid 1#16 ∧
        ∃ older rec unread, rec.seq = 1#16 ∧
          (withRing 2 (.valid 1#16) State.reset).ring.records = older ++ rec :: unread ∧
          ∀ r ∈ older, r.seq ≠ 1#16) := by
  refine ⟨listens_of_running (by decide) (by decide), by decide, by decide, by decide, by decide, by decide, by decide,
    ⟨by decide, _, _, rfl⟩, by decide, ?_⟩
  exact ⟨[{ seq := 0#16, time := 0#48, body := .wrap 0 }], { seq := 1#16, time := 0#48, body := .wrap 0 }, [],
    by decide, by decide, by decide⟩

/-! ### Episodes and trigger requests -/

/-- Episode 7 open and unannounced in ACTIVE, 100 ms after its opening. -/
def due : State := later 100000 (capturing (some 7#32) .unannounced (station .active))

/-- The open episode of `capturing`. -/
def open7 (c : Claim) : OpenEpisode := { slot := 0, claim := c, floor := none, timer := 0 }

theorem witness_WriteReachesTheOpenSlot :
    due.ctrl.current = some (open7 .unannounced) ∧
      due.store.slot (open7 .unannounced).slot = .filling (episode (some 7#32)) ∧
      due.store.freeEntries ≠ 0 ∧ (episode (some 7#32)).header.postCount + 1 < due.config.items.postCount ∧
      ({ due with store := { due.store with freeEntries := 0 } } : State).store.freeEntries = 0 ∧
      (episode (some 7#32)).header.postCount + 1
        = (withItems (fun x => { x with postCount := 1 }) due).config.items.postCount := by
  decide

theorem witness_EpisodeCloses :
    (OffersTaken due ∧ RegisterStays due ∧ due.ctrl.current = some (open7 .unannounced) ∧
      due.store.slot (open7 .unannounced).slot = .filling (episode (some 7#32)) ∧ due.running = true ∧
      1000 * due.config.items.postTime ≤ due.now - (open7 .unannounced).timer ∧
      Listens due ∧ due.station.mode ≠ .config) ∧
    (Listens (station .active) ∧ (station .active).station.mode ≠ .config ∧ (station .active).ctrl.current = none) ∧
    (Listens (station .config) ∧ (station .config).station.mode = .config) := by
  have hl : ∀ m, Listens (station m) := fun m => listens_of_running rfl (fun h => nomatch h)
  refine ⟨⟨rfl, Or.inl rfl, rfl, rfl, by decide, by decide, listens_of_running rfl (by decide), by decide⟩,
    ⟨hl _, by decide, rfl⟩, hl _, rfl⟩

/-- The register of `holding`. -/
def held1 : HeldTrigger := { causes := [(.software, 0#48)], since := 0, overflow := false }

/-- A state in which the held trigger of `holding` can be released into slot `i`. -/
def releasable (i : Fin 8) (c : State) : Bool :=
  decide (c.ctrl.register = some held1 ∧ c.station.mode = .active ∧ c.ctrl.current = none ∧
    c.ctrl.groupBusy = false ∧ c.ctrl.highest ≠ 4294967295#32 ∧ c.store.slot i = .free ∧
    (∀ j, j < i → c.store.slot j ≠ .free) ∧ c.store.freeEntries ≠ 0 ∧
    (∀ n : Fin 16, c.config.items.resetMask.getLsbD n = true → c.counters[n] = 0#32))

theorem canRelease_of_releasable {i : Fin 8} {c : State} (h : releasable i c = true) :
    CanRelease held1 (.software, 0#48) [] i c := by
  obtain ⟨h1, h2, h3, h4, h5, h6, h7, h8, h9⟩ := of_decide_eq_true h
  exact ⟨h1, rfl, h2, h3, h4, h5, h6, h7, h8, Or.inl h9⟩

/-- Peer 9 PRESENT and BUSY, heard at 0, which makes the group busy, while a trigger is held. -/
def waitingForPeer (s : State) : State :=
  withCtrl (fun c => { c with groupBusy := true })
    (holding (s.setPeer 9#5 { absentPeer with state := .present, lastHeard := some 0, busy := true }))

/-- Slot 0 COMPLETE with two records, which leaves fewer free entries than R and makes the station BUSY, while a trigger
is held. -/
def waitingForRelease : State :=
  let e : Episode := withRecord { seq := 1#16, time := 0#48, body := .vetoOn } (episode (some 7#32))
  let s := withItems (fun x => { x with reserve := 1023 }) (station .active)
  withCtrl (fun c => { c with groupBusy := true, ownBusy := true }) (holding { s with store :=
    { emptyStore with slots := emptyStore.slots.set 0 (.complete e), freeEntries := 1022, order := [0] } })

/-- The end of roll call with a trigger held. -/
def rollCallDone : State :=
  { holding (later 20000 (station .rollCall)) with peers := { State.reset.peers with rollCallTimer := some 0 } }

theorem witness_HeldTriggerReleasedAtClose :
    Ready (holding due) ∧ (holding due).ctrl.current = some (open7 .unannounced) ∧
      (holding due).store.slot (open7 .unannounced).slot = .filling (episode (some 7#32)) ∧
      1000 * (holding due).config.items.postTime ≤ (holding due).now - (open7 .unannounced).timer ∧
      CanRelease held1 (.software, 0#48) [] 1
        (closed (open7 .unannounced) (episode (some 7#32)) .timed (holding due)) :=
  ⟨⟨rfl, rfl⟩, rfl, rfl, by decide, canRelease_of_releasable (by decide)⟩

theorem witness_HeldTriggerReleasedAtSilence :
    let s := waitingForPeer (later 1020000 (station .active))
    Ready s ∧ s.ctrl.groupBusy = true ∧ (s.peer 9#5).state = .present ∧ (s.peer 9#5).lastHeard = some 0 ∧
      (s.peer 9#5).interval = none ∧ 1000 * 1020 ≤ s.now - 0 ∧
      CanRelease held1 (.software, 0#48) [] 0 (silenced 9#5 s) :=
  ⟨⟨rfl, rfl⟩, rfl, rfl, rfl, rfl, by decide, canRelease_of_releasable (by decide)⟩

theorem witness_HeldTriggerReleasedAtBeacon :
    let s := waitingForPeer (hearing (station .active))
    let m := beacon 2#48 0#32
    Ready s ∧ HearsOut s m.sender ∧ (s.peer m.sender).state ≠ .lost ∧ s.link.latch = some 0#48 ∧ m.interval ≠ 0#8 ∧
      m.time.toNat ≤ (0#48).toNat + 2 ∧ m.highest ≤ s.ctrl.highest ∧ m.rollCall = none ∧ s.ctrl.groupBusy = true ∧
      CanRelease held1 (.software, 0#48) [] 0 (beaconNoted m s) := by
  refine ⟨⟨rfl, rfl⟩, ⟨⟨rfl, rfl⟩, rfl, by decide, rfl, by decide, by decide⟩, by decide, rfl, by decide, by decide,
    by decide, rfl, rfl, canRelease_of_releasable (by decide)⟩

theorem witness_HeldTriggerReleasedAtRelease :
    Ready waitingForRelease ∧ waitingForRelease.port.bus ≠ .cutOff ∧
      (∃ e, waitingForRelease.store.slot 0 = .complete e ∧
        CanRelease held1 (.software, 0#48) [] 0 (freed 0 e waitingForRelease)) ∧
      waitingForRelease.ctrl.groupBusy = true :=
  ⟨⟨rfl, rfl⟩, by decide, ⟨_, rfl, canRelease_of_releasable (by decide)⟩, rfl⟩

theorem witness_HeldTriggerReleasedAtRollCall :
    Ready rollCallDone ∧ rollCallDone.station.mode = .rollCall ∧ rollCallDone.peers.rollCallTimer = some 0 ∧
      1000 * (2 * rollCallDone.config.items.beaconInterval) ≤ rollCallDone.now - 0 ∧
      rollCallDone.peers.holdMark = false ∧
      CanRelease held1 (.software, 0#48) [] 0 (rollCallEnded rollCallDone) :=
  ⟨⟨rfl, rfl⟩, rfl, rfl, by decide, rfl, canRelease_of_releasable (by decide)⟩

theorem witness_HeldTriggerExpires :
    let s := holding (later 50000 (station .active))
    let h : HeldTrigger := { causes := [(.software, 0#48)], since := 0, overflow := false }
    Ready s ∧ s.ctrl.current = none ∧ s.ctrl.register = some h ∧ h.causes ≠ [] ∧
      1000 * s.config.items.holdLimit ≤ s.now - h.since := by
  unfold Ready OffersTaken
  decide

/-- An episode whose header holds four causes. -/
def fourCauses : Episode :=
  { episode (some 7#32) with
    header := { (episode (some 7#32)).header with causes := List.replicate 4 (.own .software 0#48) } }

/-- The state with group busy set. -/
def busy (s : State) : State := withCtrl (fun c => { c with groupBusy := true }) s

/-- A register of this many causes. -/
def registerOf (n : Nat) : HeldTrigger :=
  { causes := List.replicate n (.software, 0#48), since := 0, overflow := false }

theorem witness_SoftwareTriggerOpensNothing :
    (Listens (station .config) ∧ (station .config).station.mode = .config ∧
      Listens (station .rollCall) ∧ (station .rollCall).station.mode = .rollCall) ∧
    (Listens (held (station .active)) ∧ Listens due ∧ Listens (busy (station .active))) ∧
    (OffersTaken (held (station .active)) ∧ (held (station .active)).station.mode = .active ∧
      (held (station .active)).ctrl.groupHold = true ∧ (held (station .active)).ctrl.current = none) ∧
    (OffersTaken due ∧ due.station.mode = .active ∧ due.ctrl.localHold = false ∧ due.ctrl.groupHold = false ∧
      due.ctrl.current = some (open7 .unannounced) ∧ due.store.slot 0 = .filling (episode (some 7#32)) ∧
      (episode (some 7#32)).header.causes.length < 4 ∧ 4 ≤ fourCauses.header.causes.length) ∧
    (let s := busy (station .active)
     OffersTaken s ∧ s.station.mode = .active ∧ s.ctrl.localHold = false ∧ s.ctrl.groupHold = false ∧
      s.ctrl.current = none ∧ s.ctrl.groupBusy = true ∧ s.config.items.holdLimit ≠ 0 ∧ s.ctrl.register = none ∧
      (withItems (fun x => { x with holdLimit := 0 }) s).config.items.holdLimit = 0 ∧
      (registerOf 3).causes.length < 4 ∧ 4 ≤ (registerOf 4).causes.length ∧
      (withCtrl (fun c => { c with register := some (registerOf 4) }) s).ctrl.register = some (registerOf 4)) := by
  have hl : ∀ m, Listens (station m) := fun m => listens_of_running rfl (fun h => nomatch h)
  refine ⟨⟨hl _, rfl, hl _, rfl⟩, ⟨listens_of_running rfl (by decide), listens_of_running rfl (by decide), listens_of_running rfl (by decide)⟩, ?_⟩
  unfold OffersTaken
  decide

theorem witness_SoftwareTriggerOriginates :
    let s := station .active
    Ready s ∧ s.port.bus ≠ .cutOff ∧ s.station.mode = .active ∧ s.ctrl.localHold = false ∧
      s.ctrl.groupHold = false ∧ s.ctrl.current = none ∧ s.ctrl.groupBusy = false ∧ s.ctrl.highest ≠ 4294967295#32 ∧ OpensQuietly s ∧
      s.store.slot 0 = .free ∧ (∀ j, j < 0 → s.store.slot j ≠ .free) ∧ s.store.freeEntries ≠ 0 ∧
      (withCtrl (fun c => { c with highest := 4294967295#32 }) s).ctrl.highest = 4294967295#32 ∧
      (∀ i, (full s).store.slot i ≠ .free) ∧
      ({ s with store := { s.store with freeEntries := 0 } } : State).store.freeEntries = 0 := by
  unfold Ready OffersTaken OpensQuietly
  decide

theorem witness_SoftwareTriggerLocal :
    let s := station (.mute .lineFault)
    Ready s ∧ s.port.bus ≠ .cutOff ∧ s.station.mode.isMute = true ∧ s.ctrl.localHold = false ∧ s.ctrl.groupHold = false ∧
      s.ctrl.current = none ∧ OpensQuietly s ∧ s.store.slot 0 = .free ∧ s.store.freeEntries ≠ 0 ∧
      (∀ i, (full s).store.slot i ≠ .free) := by
  unfold Ready OffersTaken OpensQuietly
  decide

/-! ### Trigger units -/

/-- An armed unit in this phase, with these remembered times. -/
def unitAt (p : UnitPhase) (a b : Option Nat) (n : Nat) : ArmedUnit :=
  { phase := p, remaining := n, lastA := a, lastB := b, compareA := none, compareB := none }

/-- The settings of a unit whose conditions are line 0 and this one. -/
def settingsOf (c : Combinator) (b : Condition) : UnitSettings := { twoLines c with condB := b }

/-- A RISE of line n. -/
def rise (n : Fin 16) : Offer := .edge n .rise none

/-- Every row: A alone, B alone, both, and neither; within the window, at its end, and beyond it. -/
theorem witness_AnyAndBoth :
    (settingsOf .any .empty).combinator = .any ∧ (twoLines .both).combinator = .both ∧
    ((twoLines .both).condA.occurs none (rise 0) = true ∧ (twoLines .both).condB.occurs none (rise 0) = false) ∧
    ((twoLines .both).condA.occurs none (rise 1) = false ∧ (twoLines .both).condB.occurs none (rise 1) = true) ∧
    ((settingsOf .both (.line 0 .either)).condA.occurs none (rise 0) = true ∧
      (settingsOf .both (.line 0 .either)).condB.occurs none (rise 0) = true) ∧
    ((twoLines .both).condA.occurs none (rise 2) = false ∧ (twoLines .both).condB.occurs none (rise 2) = false) ∧
    (unitAt .waitA none (some 5) 1).lastB = some 5 ∧ 105 - 5 ≤ (twoLines .both).window ∧
    (twoLines .both).window < 106 - 5 ∧ (unitAt .waitA (some 5) none 1).lastA = some 5 := by
  decide

/-- An edge of line 3 that counts to 5, and a clear that changes counter 3, carry counter 3, and not counter 4. -/
theorem witness_Carries :
    Carries (.edge 3 .rise (some 5#32)) 3 5#32 ∧ Carries (.cleared [3]) 3 0#32 ∧ (∀ v, ¬ Carries (.cleared [3]) 4 v) := by
  refine ⟨Or.inl ⟨_, rfl⟩, Or.inr ⟨_, rfl, by decide, rfl⟩, ?_⟩
  rintro v (⟨d, h⟩ | ⟨l, h, hc, _⟩)
  · exact nomatch h
  · injection h with h
    subst h
    exact absurd hc (by decide)

theorem test_counter_condition_occurs_as_it_becomes_true :
    let c : Condition := .counter 3 .gt 4#32
    (c.occurs (some false) (.edge 3 .rise (some 5#32)), c.occurs (some true) (.edge 3 .rise (some 6#32)),
      c.heldAfter (some true) (.cleared [3])) = (true, false, some false) := by decide

theorem witness_SequenceAndUnless :
    ((twoLines .sequence).combinator = .sequence ∧ (twoLines .aUnlessB).combinator = .aUnlessB ∧
      (unitAt .waitA none none 1).phase = .waitA ∧ (unitAt (.waitB 0) none none 1).phase = .waitB 0) ∧
    (let s := later 100 (armed .sequence (.waitB 0) (station .active))
     Ready s ∧ s.units[0] = .armed (unitAt (.waitB 0) none none 1) ∧ s.config.items.units[0].window ≤ s.now - 0 ∧
      s.config.items.units[0].combinator = .sequence) ∧
    (let s := held (later 100 (armed .aUnlessB (.waitB 0) (station .active)))
     Ready s ∧ s.units[0] = .armed (unitAt (.waitB 0) none none 1) ∧ s.config.items.units[0].window ≤ s.now - 0 ∧
      s.config.items.units[0].combinator = .aUnlessB ∧ (unitAt (.waitB 0) none none 1).remaining = 1 ∧
      1 < (unitAt (.waitB 0) none none 2).remaining ∧ s.ctrl.groupHold = true ∧ s.ctrl.current = none ∧
      s.station.mode = .active) := by
  unfold Ready OffersTaken
  decide

theorem witness_SatisfactionsCountDown :
    let s := held (armed .any .waitA (station .active))
    let u := unitAt .waitA none none 1
    s.units[0] = .armed u ∧ (u.take s.config.items.units[0] s.now (rise 2)).2 = false ∧
      (u.take s.config.items.units[0] s.now (rise 0)).2 = true ∧ u.remaining = 1 ∧ s.ctrl.groupHold = true ∧
      s.ctrl.current = none ∧ s.station.mode = .active ∧ 1 < (unitAt .waitA none none 2).remaining := by
  decide

/-- Unit 0 alone armed under a hold, the line of a peer heard, and counter 0 at 1. -/
def armedAlone : State :=
  { held (hearing (armed .any .waitA (station .active))) with counters := clearedCounters.set 0 1#32 }

theorem armedAlone_sound : ArmedAlone 0 (unitAt .waitA none none 1) armedAlone := by
  unfold ArmedAlone Ready OffersTaken
  decide

/-- The station's own CLEAR COUNTERS of counter 0. -/
def ownClear : CommandMessage := { sender := 5#5, command := .clearCounters, argument := 1#16 }

theorem witness_OffersReachTheArmedUnit :
    ¬ Vetoed 0 armedAlone ∧
    (let s := (later 10 armedAlone).setLine 0 { pin := .high, level := .low, phase := .pending 0 10 }
     ArmedAlone 0 (unitAt .waitA none none 1) s ∧ (s.line 0).phase = .pending 0 10 ∧ 10 ≤ s.now - 0) ∧
    (let s := withItems (fun x => { x with qualTime := x.qualTime.set 0 0 }) armedAlone
     ArmedAlone 0 (unitAt .waitA none none 1) s ∧ Level.high ≠ (s.line 0).pin ∧ (s.line 0).phase = .steady ∧
      Level.high ≠ (s.line 0).level ∧ s.config.items.qualTime[0] = 0) ∧
    (Receives armedAlone 9#5 ∧ changedCounters 1#16 armedAlone ≠ [] ∧ (trigger 7#32).number ≠ 0#32) ∧
    (let s := sending (.command ownClear) armedAlone
     ArmedAlone 0 (unitAt .waitA none none 1) s ∧ s.link.attempt = some ⟨.command ownClear, false⟩ ∧
      ownClear.command = .clearCounters ∧ changedCounters ownClear.argument s ≠ []) := by
  unfold Vetoed ArmedAlone Receives HearsOut Ready OffersTaken
  decide

theorem test_edge_counts_down_the_armed_unit :
    (next (.linePinChange 0 .high) (withItems (fun x => { x with qualTime := x.qualTime.set 0 0 }) armedAlone)).map
      (fun t => (t.ring.records.map Record.body, t.units[0]))
      = some ([.edge 0 2#32 .rise, .fire 0 2, .suppressed (.unit 0) .hold], .armed (unitAt .waitA none none 2)) := by
  decide

/-! ### The group line -/

/-- A BEACON of the station. -/
def ownBeacon : Message := .beacon { beacon 0#48 0#32 with sender := 5#5 }

theorem witness_FreeLineAndStartBit :
    ((withLink (fun l => { l with rx := .waitFree }) (station .active)).running = true ∧
      (withLink (fun l => { l with rx := .waitFree }) (station .active)).link.attempt = none ∧
      (withLink (fun l => { l with rx := .waitFree }) (station .active)).link.rx = .waitFree) ∧
    ((withLink (fun l => { l with rx := .receiving }) (station .active)).link.rx = .receiving ∧
      (withLink (fun l => { l with rx := .receiving }) (station .active)).link.latch = none) ∧
    ((station .active).link.rx = .idle ∧ (hearing (station .active)).link.rx ≠ .idle) ∧
    ({ onFreeLine with rx := .waitFree, recessive := 10 } : LineReader).recessive = 10 ∧
    (let r : LineReader := { rx := .receiving, recessive := 4, raw := [false, true, true, true, true] }
     r.rx = .receiving ∧ r.raw ≠ [] ∧ receive (r.raw ++ [true]) = .abandoned) := by
  decide

/-- A list in ACTIVE. -/
def listed (x : TransmitList) (s : State) : State := withLink (fun l => { l with list := x }) s

theorem witness_AttemptForms :
    (let s := listed { trigger := true, commands := [], beacon := .listed } due
     s.running = true ∧ s.station.mode = .active ∧ s.link.rx = .idle ∧ s.link.attempt = none ∧
      s.link.list.trigger = true ∧ s.ctrl.current = some (open7 .unannounced) ∧
      s.store.slot 0 = .filling (episode (some 7#32)) ∧ (episode (some 7#32)).header.number = some 7#32 ∧
      (episode (some 7#32)).records[(episode (some 7#32)).header.preCount]?
        = some { seq := 0#16, time := 0#48, body := .anchor (.own .software) .origin }) ∧
    (let s := listed { trigger := false, commands := [(.hold, 0#16)], beacon := .listed } (station .active)
     s.link.list.trigger = false ∧ s.link.list.commands = (.hold, 0#16) :: []) ∧
    (let s := listed { trigger := false, commands := [], beacon := .listed } (station .rollCall)
     s.station.mode = .rollCall ∧ s.link.list.commands = [] ∧ s.link.list.beacon ≠ .absent) ∧
    (station .active).link.list = { trigger := false, commands := [], beacon := .absent } := by
  decide

/-- The station at this failure count, sending its BEACON. -/
def failing (n : Nat) (m : Mode) : State :=
  withLink (fun l => { l with failures := n }) (sending ownBeacon (station m))

theorem witness_LostAndFailedAttempts :
    (let s := failing 14 .active
     Ready s ∧ s.link.attempt = some { message := ownBeacon, withdrawn := false } ∧ s.station.mode = .active ∧
      ¬ (BitError.foreign = .foreign ∧ s.station.mode = .rollCall) ∧ s.link.failures < 15) ∧
    (failing 15 .active).link.failures = 15 ∧
    (let s := failing 0 .rollCall
     Ready s ∧ s.station.mode = .rollCall ∧ ¬ (BitError.lineFault = .foreign ∧ s.station.mode = .rollCall) ∧
      s.link.attempt = some { message := ownBeacon, withdrawn := false } ∧ s.ctrl.register = none) := by
  unfold Ready OffersTaken
  decide

/-- An unannounced claim of episode 7 at the sixteenth failure. -/
theorem witness_ClaimIsOvertaken :
    let s := withLink (fun l => { l with failures := 15 })
      (sending ownBeacon (capturing (some 7#32) .unannounced (station .active)))
    Ready s ∧ s.link.attempt = some { message := ownBeacon, withdrawn := false } ∧ s.station.mode = .active ∧
      s.link.failures = 15 ∧ s.ctrl.current = some (open7 .unannounced) ∧
      s.store.slot 0 = .filling (episode (some 7#32)) ∧ (open7 .unannounced).claim = .unannounced ∧
      (episode (some 7#32)).header.number = some 7#32 ∧ (open7 .announced).claim ≠ .unannounced := by
  unfold Ready OffersTaken
  decide

theorem witness_SuccessfulAttempts :
    (Ready (sending ownBeacon (station .active)) ∧ (sending ownBeacon (station .active)).link.attempt
      = some { message := ownBeacon, withdrawn := false }) ∧
    (let s := sending (.trigger (trigger 7#32)) due
     Ready s ∧ s.link.attempt = some { message := .trigger (trigger 7#32), withdrawn := false } ∧
      s.ctrl.current = some (open7 .unannounced) ∧ (open7 .unannounced).claim = .unannounced ∧
      s.store.slot 0 = .filling (episode (some 7#32))) ∧
    (withLink (fun l => { l with attempt := some { message := .trigger (trigger 7#32), withdrawn := true } })
      due).link.attempt = some { message := .trigger (trigger 7#32), withdrawn := true } ∧
    (let s := sending (.command ownClear) (station .active)
     Ready s ∧ s.link.attempt = some { message := .command ownClear, withdrawn := false } ∧
      s.ctrl.register = none ∧ ClearsQuietly ownClear.argument s) := by
  unfold Ready OffersTaken ClearsQuietly
  decide

theorem witness_PeerGroupCommands :
    (Receives (hearing (station .active)) 9#5 ∧ ClearsQuietly 1#16 (hearing (station .active)) ∧
      (hearing (station .active)).ctrl.register = none) ∧
    (let s := holding (hearing (station .active))
     Receives s 9#5 ∧ s.ctrl.current = none ∧ s.ctrl.register = some (registerOf 1) ∧
      (registerOf 1).causes ≠ [] ∧ s.ctrl.groupHold = false) := by
  unfold Receives HearsOut Ready OffersTaken ClearsQuietly
  decide

theorem witness_DiscardedMessages :
    (let s := hearing (station .active)
     Ready s ∧ s.link.rx = .receiving ∧ s.link.latch ≠ none ∧ s.link.attempt = none ∧
      s.station.address ≠ 0#5 ∧ s.station.mode ≠ .rollCall) ∧
    (let s := hearing (station .rollCall)
     Ready s ∧ s.link.rx = .receiving ∧ s.link.latch ≠ none ∧ s.link.attempt = none ∧
      s.station.address ≠ 0#5 ∧ s.station.mode = .rollCall) := by
  unfold Ready OffersTaken
  decide

theorem witness_TriggerWithoutEpisode :
    (let s := hearing (station .active)
     Receives s (trigger 3#32).sender ∧ (trigger 3#32).number ≠ 0#32 ∧ s.station.mode = .active ∧
      s.ctrl.localHold = false ∧ s.ctrl.groupHold = false ∧ s.ctrl.current = none ∧ s.units = disarmedUnits ∧
      s.ctrl.highest < (trigger 3#32).number ∧ s.store.slot 0 = .free ∧ s.store.freeEntries ≠ 0 ∧
      (∀ i, (full s).store.slot i ≠ .free)) ∧
    (let s := hearing (station .rollCall)
     Receives s 9#5 ∧ s.ctrl.current = none ∧ s.units = disarmedUnits ∧ s.station.mode = .rollCall) ∧
    (held (hearing (station .active))).ctrl.groupHold = true ∧
    (let s := withCtrl (fun c => { c with highest := 3#32 }) (hearing (station .active))
     Receives s 9#5 ∧ s.station.mode = .active ∧ (trigger 3#32).number ≤ s.ctrl.highest) := by
  unfold Receives HearsOut Ready OffersTaken
  decide

/-- Episode 7 open under this number and claim while a peer's message is assembled. -/
def meeting (n : Option Word32) (c : Claim) : State := hearing (capturing n c (station .active))

theorem witness_TriggerMeets :
    (let s := meeting (some 7#32) .unannounced
     Receives s 9#5 ∧ s.station.mode = .active ∧ s.ctrl.localHold = false ∧ s.ctrl.groupHold = false ∧
      s.units = disarmedUnits ∧ s.ctrl.current = some (open7 .unannounced) ∧
      s.store.slot 0 = .filling (episode (some 7#32)) ∧ s.store.freeEntries ≠ 0 ∧
      (episode (some 7#32)).header.postCount + 1 < s.config.items.postCount ∧
      (trigger 7#32).number.toNat ≤ s.ctrl.highest.toNat + 1 ∧ (trigger 7#32).number ≠ 0#32 ∧
      (episode (some 7#32)).header.number = some (trigger 7#32).number ∧
      (open7 .unannounced).claim = .unannounced) ∧
    ((meeting (some 7#32) .announced).ctrl.current = some (open7 .announced) ∧
      (meeting (some 7#32) .learned).ctrl.current = some (open7 .learned)) ∧
    ((7#32 : Word32) < (trigger 8#32).number ∧ (trigger 8#32).number.toNat ≤ 7 + 1) ∧
    ((trigger 6#32).number < (7#32 : Word32)) ∧
    ((episode none).header.number = none ∧ (open7 .unannounced).floor = none) ∧
    ((8#32 : Word32) ≤ (trigger 8#32).number ∧
      ({ open7 .unannounced with floor := some 8#32 } : OpenEpisode).floor = some 8#32) ∧
    (let s := held (meeting (some 7#32) .unannounced)
     Receives s 9#5 ∧ s.ctrl.groupHold = true ∧ s.ctrl.current = some (open7 .unannounced) ∧
      s.store.slot 0 = .filling (episode (some 7#32))) ∧
    (let s := hearing (capturing none .unannounced (station .rollCall))
     Receives s 9#5 ∧ s.station.mode = .rollCall ∧ s.ctrl.current = some (open7 .unannounced) ∧
      s.store.slot 0 = .filling (episode none)) := by
  unfold Receives HearsOut Ready OffersTaken
  decide

theorem witness_TriggerCuts :
    let s := meeting (some 7#32) .announced
    Receives s 9#5 ∧ (trigger 8#32).number ≠ 0#32 ∧ s.station.mode = .active ∧ s.ctrl.localHold = false ∧
      s.ctrl.groupHold = false ∧ s.units = disarmedUnits ∧ s.ctrl.current = some (open7 .announced) ∧
      s.store.slot 0 = .filling (episode (some 7#32)) ∧ (open7 .announced).claim ≠ .unannounced ∧
      (episode (some 7#32)).header.number = some 7#32 ∧ (7#32 : Word32) < (trigger 8#32).number ∧
      s.store.slot 1 = .free ∧ (∀ j, j < 1 → s.store.slot j ≠ .free) ∧ s.store.freeEntries ≠ 0 ∧ RegisterStays s ∧
      ({ s with store := { s.store with freeEntries := 0 } } : State).store.freeEntries = 0 := by
  unfold Receives HearsOut Ready OffersTaken RegisterStays
  decide

/-! ### Peers, roll call and group time -/

theorem witness_BeaconIsTaken :
    let s := hearing (station .active)
    HearsOut s 9#5 ∧ s.link.latch = some 0#48 ∧ (beacon 2#48 3#32).interval ≠ 0#8 ∧ s.ctrl.current = none ∧
      s.ctrl.register = none ∧
      ¬ Steps s.time.group 0#48 (beacon 2#48 3#32).time ∧ Steps s.time.group 0#48 (beacon 3#48 3#32).time := by
  unfold HearsOut Ready OffersTaken Steps
  decide

theorem witness_BeaconRenumbers :
    let s := meeting (some 7#32) .unannounced
    let m := beacon 2#48 7#32
    Receives s m.sender ∧ s.link.latch = some 0#48 ∧ m.interval ≠ 0#8 ∧ m.time.toNat ≤ (0#48).toNat + 2 ∧
      m.rollCall = none ∧ s.ctrl.current = some (open7 .unannounced) ∧
      s.store.slot 0 = .filling (episode (some 7#32)) ∧ (open7 .unannounced).claim = .unannounced ∧
      (episode (some 7#32)).header.number = some 7#32 ∧ (7#32 : Word32) ≤ m.highest ∧
      m.highest ≠ 4294967295#32 ∧ (beacon 2#48 4294967295#32).highest = 4294967295#32 ∧
      s.ctrl.highest ≤ m.highest + 1#32 ∧ s.store.freeEntries ≠ 0 ∧
      (episode (some 7#32)).header.postCount + 1 < s.config.items.postCount := by
  unfold Receives HearsOut Ready OffersTaken
  decide

/-- Peer 9 in this state, heard at 0. -/
def knows (x : PeerState) (s : State) : State :=
  s.setPeer 9#5 { absentPeer with state := x, lastHeard := some 0 }

theorem witness_PeersLostAndBack :
    (let s := knows .lost (hearing (station .active))
     Ready s ∧ s.link.rx = .receiving ∧ s.link.latch ≠ none ∧ s.link.attempt = none ∧
      (9#5 : Address) ≠ s.station.address ∧ (s.peer 9#5).state = .lost ∧ s.ctrl.current = none ∧
      s.ctrl.groupHold = false ∧ s.peers.holdMark = false) ∧
    (let s := knows .present (later 1020000 (station .active))
     Ready s ∧ s.ctrl.current = none ∧ s.ctrl.register = none ∧ (s.peer 9#5).state = .present ∧
      (s.peer 9#5).lastHeard = some 0 ∧ (s.peer 9#5).interval = none ∧ 1000 * 1020 ≤ s.now - 0) := by
  unfold Ready OffersTaken
  decide

theorem witness_BeaconTimerAndLimit :
    (let s : State := { later 10000 (station .active) with
      peers := { State.reset.peers with beaconTimer := some 0 } }
     s.running = true ∧ s.station.mode = .active ∧ s.peers.beaconTimer = some 0 ∧
      1000 * s.config.items.beaconInterval ≤ s.now - 0) ∧
    (let s : State := { State.reset with time := { State.reset.time with group := Time.limit } }
     s.power.supply = true ∧ s.time.group = Time.limit) := by
  decide

theorem witness_RollCall :
    (Listens (station (.mute .lineFault)) ∧ Listens (station .active)) ∧
    (let s : State := { later 20000 (station .rollCall) with
      peers := { State.reset.peers with rollCallTimer := some 0, holdMark := true } }
     Ready s ∧ s.station.mode = .rollCall ∧ s.peers.rollCallTimer = some 0 ∧
      1000 * (2 * s.config.items.beaconInterval) ≤ s.now - 0 ∧ s.ctrl.register = none) ∧
    ((station (.mute .lineFault)).station.mode = .mute .lineFault ∧
      (station .active).station.mode ≠ .mute .lineFault) := by
  refine ⟨⟨listens_of_running rfl (by decide), listens_of_running rfl (by decide)⟩, ?_⟩
  unfold Ready OffersTaken
  decide

theorem witness_ReceivedFrame :
    (trigger 1#32).wellFormed = true ∧ (beacon 0#48 0#32).wellFormed = true ∧ ownClear.sender ≠ 0#5 := by
  decide

theorem witness_LowerArbitration :
    (Message.trigger (trigger 1#32)).arbitration < (Message.command ownClear).arbitration := by
  decide

/-! ### The control port -/

theorem witness_StatusAndCounters : Listens (station .active) := listens_of_running rfl (by decide)

theorem witness_ReadPeer :
    Listens (station .active) ∧ 31 < (32#8).toNat ∧ (5#8 : Byte) = (5#5 : Address).setWidth 8 ∧
      (5#5 : Address) = (station .active).station.address ∧ (31#8 : Byte) = (31#5 : Address).setWidth 8 ∧
      (31#5 : Address) ≠ (station .active).station.address ∧
      ((knows .present (station .active)).peer 9#5).lastHeard = some 0 := by
  exact ⟨listens_of_running rfl (by decide), by decide⟩

/-- The value bytes of a number. -/
def numberBytes (n : Nat) : BitVec 56 := BitVec.ofNat 56 (n * 2 ^ 24)

theorem witness_Config :
    (Listens (station .active) ∧ Listens (station .config)) ∧ (station .active).config.window = .closed ∧ (station .config).config.window = .isOpen ∧
      itemOf 0#8 0#8 = none ∧ itemOf 11#8 16#8 = none ∧ itemOf 3#8 0#8 = some .preCount ∧
      (defaultSettings.write .preCount (numberBytes 256)).isSome = false ∧
      (defaultSettings.write .preCount (numberBytes 255)).isSome = true ∧
      itemOf 6#8 0#8 = some .reserve ∧ (defaultSettings.write .reserve (numberBytes 1023)).isSome = true ∧
      (station .config).config.items = defaultSettings ∧ (station .config).station.mode = .config ∧
      (station .config).ctrl.current = none := by
  exact ⟨⟨listens_of_running rfl (by decide), listens_of_running rfl (by decide)⟩, by decide⟩

theorem witness_CloseConfig :
    (Listens (station .config) ∧ Listens State.reset ∧ Listens (station .active)) ∧
      (station .config).config.items.failing = none ∧
      (withItems (fun x => { x with reserve := 1023 }) (station .config)).config.window = .isOpen ∧
      (station .config).station.address ≠ 0#5 ∧ State.reset.station.address = 0#5 ∧
      State.reset.config.window = .isOpen ∧ State.reset.config.items.failing = none ∧
      State.reset.station.mode = .config ∧ State.reset.ctrl.current = none := by
  exact ⟨⟨listens_of_running rfl (by decide), listens_of_running rfl (by decide), listens_of_running rfl (by decide)⟩, by decide⟩

/-- Unit 2 enabled without a condition A; unit 0 under BOTH without a condition B; and Q or R too great. -/
theorem witness_CloseConfigNames :
    let bad (k : Fin 4) (u : UnitSettings) : Settings := { defaultSettings with units := defaultSettings.units.set k u }
    (bad 2 { defaultUnit with enable := true }).failing = some (.condA 2) ∧
      (bad 0 { defaultUnit with combinator := .both }).failing = some (.condB 0) ∧
      ({ defaultSettings with preCount := 255, postCount := 512 } : Settings).failing = none ∧
      ({ defaultSettings with preCount := 512, postCount := 512 } : Settings).failing = some .postCount ∧
      ({ defaultSettings with reserve := 991 } : Settings).failing = some .reserve ∧
      ({ defaultSettings with reserve := 990 } : Settings).failing = none := by
  decide

/-- The filed episode, selected. -/
def reading (pos : Nat) : State :=
  let s := filed (station .active)
  { s with store := { s.store with selection := some (0, pos) } }

theorem witness_EpisodesRead :
    (Listens (filed (station .active)) ∧ Listens due ∧ Listens (reading 0) ∧ Listens (reading 1)) ∧ (filed (station .active)).store.slot 0
        = .complete (episode (some 7#32)) ∧
      (filed (station .active)).store.slot 7 = .free ∧ due.store.slot 0 = .filling (episode (some 7#32)) ∧
      7 < (8#8).toNat ∧ (station .active).store.selection = none ∧ 16 < (17#8).toNat ∧ 1 ≤ (1#8).toNat ∧
      (reading 0).store.selection = some (0, 0) ∧ 0 < (episode (some 7#32)).records.length ∧
      (reading 1).store.selection = some (0, 1) ∧ (episode (some 7#32)).records.length ≤ 1 := by
  exact ⟨⟨listens_of_running rfl (by decide), listens_of_running rfl (by decide), listens_of_running rfl (by decide),
    listens_of_running rfl (by decide)⟩, by decide⟩

theorem witness_EpisodesListed : (filed (station .active)).store.OrderSound := by
  unfold Store.OrderSound
  decide

theorem witness_Release :
    Listens (filed (station .active)) ∧ OffersTaken (filed (station .active)) ∧ (filed (station .active)).ctrl.register = none ∧
      (filed (station .active)).store.slot 0 = .complete (episode (some 7#32)) := by
  unfold OffersTaken
  exact ⟨listens_of_running rfl (by decide), by decide⟩

theorem witness_HoldAndCommands :
    (Listens (station .active) ∧ Listens (station .rollCall)) ∧ (2#8 : Byte) ≠ 0#8 ∧ (2#8 : Byte) ≠ 1#8 ∧ OffersTaken (station .active) ∧
      (station .active).ctrl.localHold = false ∧ (station .active).ctrl.localHold ≠ true ∧
      (station .active).ctrl.register = none ∧ (4#8 : Byte) ≠ 3#8 ∧ (station .rollCall).station.mode ≠ .active ∧
      (station .active).station.mode = .active ∧ (station .active).link.list.commands.length < 2 ∧
      2 ≤ (listed { trigger := false, commands := [(.hold, 0#16), (.resume, 0#16)], beacon := .absent }
        (station .active)).link.list.commands.length := by
  unfold OffersTaken
  exact ⟨⟨listens_of_running rfl (by decide), listens_of_running rfl (by decide)⟩, by decide⟩

theorem witness_Attention : Listens State.reset ∧ State.reset.attnPin = .low ∧ due.openPin = .high := by
  exact ⟨listens_of_running rfl (by decide), by decide⟩

theorem witness_PortBytes :
    Listens State.reset ∧ transactionOf (.restart 5#5) = some [19#8] ∧
      (∀ a, Instr.restart 5#5 = .restart a → a = 5#5) ∧
      needs (0#8).toNat = none ∧ needs (21#8).toNat = none ∧ needs (2#8).toNat = some 9 ∧ needs (20#8).toNat = some 1 ∧
      needs (19#8).toNat = some 0 ∧ State.reset.running = true ∧
      State.reset.port.bus = .idle ∧ State.reset.beginTransaction.running = true ∧
      State.reset.beginTransaction.port.bus ≠ .idle ∧ State.reset.port.response.body.bytes.length ≤ 0 ∧
      0 < ({ result := .ok, body := .holds true false } : Response).body.bytes.length := by
  refine ⟨listens_of_running rfl (by decide), by decide, ?_, by decide⟩
  intro a h
  injection h with h
  exact h.symm

/-- A report, an entry, a record and a header within the bounds, at their ends. -/
theorem witness_ResponsesInBounds :
    (statusReport State.reset).freeSlots ≤ 8 ∧ (statusReport State.reset).freeEntries ≤ 1024 ∧
      (statusReport State.reset).failures ≤ 16 ∧
      (∀ t, (peerReport absentPeer 0).sinceHeard = some t → t ≤ 65535) ∧
      (∀ k n, RecordBody.fire 3 256 = .fire k n → n ≤ 256) ∧
      fourCauses.header.causes.length ≤ 4 ∧ fourCauses.header.snapshot.length ≤ 16 ∧
      fourCauses.header.preCount ≤ 255 ∧ fourCauses.header.postCount ≤ 512 := by
  refine ⟨by decide, by decide, by decide, ?_, ?_, by decide⟩
  · intro t h; exact nomatch h
  · intro k n h; injection h with h1 h2; omega

end Sys2Proof.Machine.Tests
end

section
/-! PROOFS. The units take every offer that an event brings: the offers waiting and the one clear that openings may yet
bring are never more than `settle` takes (R34, R48). -/

namespace Sys2Proof.Machine

/-! ### The offers still to be taken -/

/-- The offers waiting, and one more while an opening would find a counter of the reset-on-anchor mask to clear: once
one opening has cleared them, no later one brings an offer (R11, R14, R48). -/
def State.offersDue (s : State) : Nat :=
  s.offers.length + if (changedBy s.config.items.resetMask s.counters).isEmpty then 0 else 1

theorem offersDue_le (s : State) : s.offersDue ≤ s.offers.length + 1 := by
  unfold State.offersDue; split <;> omega

theorem offers_length_le_due (s : State) : s.offers.length ≤ s.offersDue := Nat.le_add_right _ _

/-- Only offers, counters and configuration say how many offers are due. -/
theorem offersDue_congr {s t : State} (ho : t.offers = s.offers) (hc : t.counters = s.counters)
    (hg : t.config = s.config) : t.offersDue = s.offersDue := by
  simp [State.offersDue, ho, hc, hg]

/-! ### Clears -/

theorem changedBy_eq_nil_iff (m : Mask) (bank : Vector Word32 16) :
    changedBy m bank = [] ↔ ∀ c : Fin 16, m.getLsbD c = true → bank[c] = 0#32 := by
  simp [changedBy, inMask, List.filter_eq_nil_iff]

/-- A counter of the mask is 0 after the clear, and every other keeps its value (R12, R14). -/
theorem clearedBy_get (m : Mask) (bank : Vector Word32 16) (c : Fin 16) :
    (clearedBy m bank)[c] = if m.getLsbD c = true then 0#32 else bank[c] := vecOf_get 16 _ c

/-- A second clear of the same mask finds nothing to change (R11, R48). -/
theorem changedBy_clearedBy (m : Mask) (bank : Vector Word32 16) : changedBy m (clearedBy m bank) = [] := by
  rw [changedBy_eq_nil_iff]
  intro c hc
  rw [clearedBy_get, if_pos hc]

/-- A clear that changes no counter brings no offer (R11). -/
theorem clearCounters_of_unchanged (m : Mask) (s : State) (h : changedBy m s.counters = []) :
    clearCounters m s = s.setCounters (clearedBy m s.counters) := by
  simp [clearCounters, h]

/-- A clear that changes a counter brings one offer (R11, R34). -/
theorem clearCounters_of_changed (m : Mask) (s : State) (h : changedBy m s.counters ≠ []) :
    clearCounters m s = (s.setCounters (clearedBy m s.counters)).bring (.cleared (changedBy m s.counters)) := by
  simp [clearCounters, h]

/-- The clear of an opening turns the one that was due into an offer, or brings none (R14, R48). -/
theorem offersDue_clearCounters (s : State) :
    (clearCounters s.config.items.resetMask s).offersDue = s.offersDue := by
  by_cases h : changedBy s.config.items.resetMask s.counters = []
  · simp [clearCounters_of_unchanged _ _ h, State.offersDue, changedBy_clearedBy, h]
  · simp [clearCounters_of_changed _ _ h, State.offersDue, changedBy_clearedBy, h]

/-! ### Capture brings no more offers than are due -/

@[simp] theorem offersDue_updateBusy (s : State) : (updateBusy s).offersDue = s.offersDue :=
  offersDue_congr (updateBusy_offers s) (updateBusy_counters s) (captureFrame_updateBusy s).config

@[simp] theorem offersDue_closeCurrent (e : EndStatus) (s : State) :
    (closeCurrent e s).offersDue = s.offersDue := by
  unfold closeCurrent
  split
  · rfl
  · cases e <;> rfl

@[simp] theorem offersDue_handOver (r : Record) (s : State) : (handOver r s).offersDue = s.offersDue := by
  rcases handOver_cases r s with h | ⟨o, e, _, _, ⟨_, h⟩ | ⟨_, s1, h1, ⟨_, h⟩ | ⟨_, h⟩⟩⟩
  · rw [h]
  · rw [h, offersDue_closeCurrent]
  · rw [h, offersDue_updateBusy, offersDue_closeCurrent, h1]; rfl
  · rw [h, offersDue_updateBusy, h1]; rfl

@[simp] theorem offersDue_writeOne (s : State) (b : RecordBody) : (writeOne s b).offersDue = s.offersDue :=
  offersDue_handOver _ _

@[simp] theorem offersDue_writeAll (bs : List RecordBody) (s : State) :
    (writeAll bs s).offersDue = s.offersDue := by
  unfold writeAll
  induction bs generalizing s with
  | nil => rfl
  | cons b bs ih => exact (ih _).trans (offersDue_writeOne s b)

@[simp] theorem offersDue_suppressAll (f : SuppressedFlag) (cs : List OwnCause) (s : State) :
    (suppressAll f cs s).offersDue = s.offersDue := by
  cases cs with
  | nil => rfl
  | cons c cs => exact offersDue_writeAll _ s

@[simp] theorem offersDue_openIn (o : Opening) (i : Fin 8) (s : State) : (openIn o i s).offersDue = s.offersDue := by
  unfold openIn
  dsimp only
  rw [offersDue_updateBusy, offersDue_clearCounters]
  rfl

@[simp] theorem offersDue_riseOpen (s : State) : s.riseOpen.offersDue = s.offersDue :=
  offersDue_congr (State.riseOpen_offers s) (State.riseOpen_counters s) (State.riseOpen_config s)

@[simp] theorem offersDue_originate (c : OwnCause × Time) (cs : List (OwnCause × Time)) (ov : Bool) (s : State) :
    (originate c cs ov s).1.offersDue = s.offersDue := by
  rcases originate_cases c cs ov s with ⟨f, h⟩ | ⟨i, s2, _, _, _, h2, h⟩
  · rw [h]; exact offersDue_suppressAll f _ s
  · rw [h, h2]
    exact (offersDue_riseOpen _).trans (offersDue_openIn _ i _)

@[simp] theorem offersDue_examineRegister (s : State) : (examineRegister s).offersDue = s.offersDue := by
  rcases examineRegister_cases s with h | ⟨r, _, _, _, _, ⟨_, h⟩ | ⟨c, cs, _, h⟩⟩
  · rw [h]
  · rw [h]; rfl
  · rw [h, offersDue_originate]; rfl

@[simp] theorem offersDue_examineAfter (s t : State) : (examineAfter s t).offersDue = t.offersDue := by
  rcases examineAfter_cases s t with h | h <;> simp [h]

@[simp] theorem offersDue_write (bs : List RecordBody) (s : State) : (write bs s).offersDue = s.offersDue := by
  simp [write]

@[simp] theorem offersDue_suppress (f : SuppressedFlag) (cs : List OwnCause) (s : State) :
    (suppress f cs s).offersDue = s.offersDue := by
  simp [suppress]

@[simp] theorem offersDue_mapHeader (s : State) (f : Header → Header) :
    (s.mapHeader f).offersDue = s.offersDue := by
  unfold State.mapHeader State.mapEpisode
  split
  · rfl
  · split <;> rfl

theorem offersDue_holdRequest (c : OwnCause) (t : Time) (s : State) :
    (holdRequest c t s).1.offersDue = s.offersDue := by
  unfold holdRequest
  split
  · exact offersDue_suppress _ _ s
  · split
    · rfl
    · split <;> rfl

theorem offersDue_openLocal (c : OwnCause) (t : Time) (s : State) :
    (openLocal c t s).1.offersDue = s.offersDue := by
  unfold openLocal
  split
  · exact offersDue_suppress _ _ s
  · split
    · exact offersDue_suppress _ _ s
    · exact (offersDue_riseOpen _).trans (offersDue_openIn _ _ s)

theorem offersDue_requestNoEpisode (c : OwnCause) (t : Time) (s : State) :
    (requestNoEpisode c t s).1.offersDue = s.offersDue := by
  unfold requestNoEpisode
  split
  · exact offersDue_openLocal c t s
  · split
    · exact offersDue_holdRequest c t s
    · exact offersDue_originate _ _ _ s

/-- A trigger request leaves as many offers due as it found, in every case of R97. -/
@[simp] theorem offersDue_request (c : OwnCause) (t : Time) (s : State) :
    (request c t s).1.offersDue = s.offersDue := by
  unfold request
  split
  · rfl
  · split
    · exact offersDue_suppress _ _ s
    · split
      · exact offersDue_mapHeader s _
      · exact offersDue_requestNoEpisode c t s

/-! ### Units bring no more offers than are due -/

@[simp] theorem offersDue_fire (k : Fin 4) (s : State) : (fire k s).offersDue = s.offersDue := by
  simp [fire]

theorem offersDue_settleUnit (k : Fin 4) (r : ArmedUnit × Bool) (s : State) :
    (settleUnit k r s).offersDue = s.offersDue := by
  unfold settleUnit
  dsimp only
  split
  · split
    · exact offersDue_fire k _
    · rfl
  · rfl

theorem offersDue_unitTakes (o : Offer) (s : State) (k : Fin 4) : (unitTakes o s k).offersDue = s.offersDue := by
  unfold unitTakes
  split
  · rfl
  · exact offersDue_settleUnit k _ s

theorem offersDue_takeOfferIn (order : List (Fin 4)) (o : Offer) (s : State) :
    (takeOfferIn order o s).offersDue = s.offersDue := by
  unfold takeOfferIn
  induction order generalizing s with
  | nil => rfl
  | cons k order ih => exact (ih _).trans (offersDue_unitTakes o s k)

/-- Whatever the units make of an offer, as many offers are due after it as before (R34, R48). -/
theorem offersDue_takeOffer (o : Offer) (s : State) : (takeOffer o s).offersDue = s.offersDue :=
  offersDue_takeOfferIn _ _ _

/-- Taking as many offers as are due leaves none. -/
theorem takeOffers_offers (n : Nat) (s : State) (h : s.offersDue ≤ n) : (takeOffers n s).offers = [] := by
  induction n generalizing s with
  | zero => exact List.length_eq_zero_iff.1 (Nat.le_zero.1 (Nat.le_trans (offers_length_le_due s) h))
  | succ n ih =>
    unfold takeOffers
    split
    · assumption
    · rename_i o rest hr
      apply ih
      have hpop : s.offersDue = (s.setOffers rest).offersDue + 1 := by
        simp [State.offersDue, hr]; omega
      rw [offersDue_takeOffer]
      omega

/-- The units take every offer that an event brings, with those that the taking itself brings (R34, R48). -/
theorem offersTaken_settle (s : State) : OffersTaken (settle s) :=
  takeOffers_offers _ s (offersDue_le s)

/-- Where the offers brought are none, or no unit is armed, an event ends with no more than its offers dropped (R34). -/
theorem settle_of_quiet (s : State) (h : s.offers = [] ∨ s.units = disarmedUnits) :
    settle s = s.setOffers [] := by
  rcases h with h | h
  · rw [settle_of_no_offers s h, ← h]; rfl
  · exact settle_of_disarmed s h

end Sys2Proof.Machine
end

section
/-! PROOFS. Records written while no episode is open change the ring alone (R18, R24). -/

namespace Sys2Proof.Machine

open Sys2Proof.Machine.Claims

/-- With no episode open, records written one after the other go to the ring and to nothing else (R21, R24). -/
theorem writeAll_of_no_episode (bs : List RecordBody) (s : State) (h : s.ctrl.current = none) :
    writeAll bs s = s.setRing (logged s.time.group bs s.ring) := by
  induction bs generalizing s with
  | nil => rfl
  | cons b bs ih =>
    calc writeAll (b :: bs) s = writeAll bs (writeOne s b) := rfl
      _ = writeAll bs (s.setRing (s.ring.put (stamp b s))) := by rw [writeOne_of_no_episode s b h]
      _ = s.setRing (logged s.time.group (b :: bs) s.ring) := ih _ h

/-- With no episode open, the records of an event call for no examination of the register (R124). -/
theorem write_of_no_episode (bs : List RecordBody) (s : State) (h : s.ctrl.current = none) :
    write bs s = s.setRing (logged s.time.group bs s.ring) := by
  rw [write, writeAll_of_no_episode bs s h]
  exact examineAfter_of_calm _ _ h rfl

/-- With no episode open, suppression writes its records and sets its flag (R97, R169). -/
theorem suppress_of_no_episode (f : SuppressedFlag) (cs : List OwnCause) (s : State) (hc : cs ≠ [])
    (h : s.ctrl.current = none) : suppress f cs s = suppressed f cs s := by
  have hall : suppressAll f cs s = suppressed f cs s := by
    cases cs with
    | nil => exact absurd rfl hc
    | cons c cs =>
      show (writeAll _ s).raise .suppressed = _
      rw [writeAll_of_no_episode _ s h]
      rfl
  rw [suppress, hall]
  exact examineAfter_of_calm _ _ h rfl

end Sys2Proof.Machine
end

section
/-! PROOFS. Event lines, counters and VETO (Chapter 1): what a pin, a timer and a qualified edge do. -/

namespace Sys2Proof.Machine

open Sys2Proof.Machine.Claims

/-! ### The two events of an input (R1, R2, R6) -/

theorem exec_linePinChange_same {n : Fin 16} {l : Level} {s : State} (h : l = (s.line n).pin) :
    exec (.linePinChange n l) s = .next s := if_pos h

theorem exec_linePinChange {n : Fin 16} {l : Level} {s : State} (hr : s.running = true)
    (h : l ≠ (s.line n).pin) : exec (.linePinChange n l) s = .next (settle (moveLine n l s)) :=
  (if_neg h).trans (if_pos hr)

/-- A timer that has reached the time in force is due (R1). -/
theorem LineInput.due_of_pending {x : LineInput} {now since inForce : Nat} (hp : x.phase = .pending since inForce)
    (hd : inForce ≤ now - since) : x.due now = true := by
  simp [LineInput.due, hp, reached, hd]

theorem exec_qualificationTimerExpiry {n : Fin 16} {s : State} {since inForce : Nat} (hr : s.running = true)
    (hp : (s.line n).phase = .pending since inForce) (hd : inForce ≤ s.now - since) :
    exec (.qualificationTimerExpiry n) s = .next (settle (qualifyLine n (s.line n).pin s)) :=
  if_pos (by rw [hr, LineInput.due_of_pending hp hd]; rfl)

/-- A pin that leaves the qualified level under a time of 0 qualifies at once (R2). -/
theorem moveLine_at_once {n : Fin 16} {l : Level} {s : State} (hp : (s.line n).phase = .steady)
    (hl : l ≠ (s.line n).level) (hq : s.config.items.qualTime[n] = 0) : moveLine n l s = qualifyLine n l s := by
  simp only [moveLine, hp, if_neg hl, if_pos hq]

/-- A pin that leaves the qualified level starts its timer against the time then set (R1). -/
theorem moveLine_timed {n : Fin 16} {l : Level} {s : State} (hp : (s.line n).phase = .steady)
    (hl : l ≠ (s.line n).level) (hq : s.config.items.qualTime[n] ≠ 0) :
    moveLine n l s = s.setLine n
      { pin := l, level := (s.line n).level, phase := .pending s.now s.config.items.qualTime[n] } := by
  simp only [moveLine, hp, if_neg hl, if_neg hq]

/-- A pin that returns to the qualified level stops its timer (R1). -/
theorem moveLine_back {n : Fin 16} {l : Level} {s : State} {since inForce : Nat}
    (hp : (s.line n).phase = .pending since inForce) (hl : l = (s.line n).level) :
    moveLine n l s = s.setLine n { pin := l, level := (s.line n).level, phase := .steady } := by
  simp only [moveLine, hp, if_pos hl]

theorem exec_vetoPinChange_same {l : Level} {s : State} (h : l = s.lines.veto.pin) :
    exec (.vetoPinChange l) s = .next s := if_pos h

theorem exec_vetoPinChange {l : Level} {s : State} (hr : s.running = true) (h : l ≠ s.lines.veto.pin) :
    exec (.vetoPinChange l) s = .next (moveVeto l s) :=
  (if_neg h).trans (if_pos hr)

theorem exec_vetoQualificationExpiry {s : State} {since inForce : Nat} (hr : s.running = true)
    (hp : s.lines.veto.phase = .pending since inForce) (hd : inForce ≤ s.now - since) :
    exec .vetoQualificationExpiry s = .next (settle (qualifyVeto s.lines.veto.pin s)) :=
  if_pos (by rw [hr, LineInput.due_of_pending hp hd]; rfl)

/-- VETO is timed against 10 µs (R6). -/
theorem moveVeto_timed {l : Level} {s : State} (hp : s.lines.veto.phase = .steady) (hl : l ≠ s.lines.veto.level) :
    moveVeto l s = s.setVeto { pin := l, level := s.lines.veto.level, phase := .pending s.now 10 } := by
  simp only [moveVeto, hp, if_neg hl, vetoTime]

theorem moveVeto_back {l : Level} {s : State} {since inForce : Nat}
    (hp : s.lines.veto.phase = .pending since inForce) (hl : l = s.lines.veto.level) :
    moveVeto l s = s.setVeto { pin := l, level := s.lines.veto.level, phase := .steady } := by
  simp only [moveVeto, hp, if_pos hl]

/-! ### A qualified edge (R3, R8, R10) -/

theorem vetoed_iff (n : Fin 16) (s : State) : s.vetoed n = true ↔ Vetoed n s := by
  simp [State.vetoed, Vetoed, inMask]

/-- A vetoed edge moves the line's qualified level alone (R8). -/
theorem qualifyLine_of_vetoed {n : Fin 16} {s : State} (l : Level) (h : Vetoed n s) :
    qualifyLine n l s = s.setLine n { pin := l, level := l, phase := .steady } :=
  if_pos ((vetoed_iff n s).2 h)

/-- The state in which a qualified edge has been counted and its offer brought, and its records are to be written
(steps 1 and 3 of R3, log 11). -/
def edgeCounted (n : Fin 16) (l : Level) (s : State) : State :=
  { s with
    lines := { s.lines with ev := s.lines.ev.set n { pin := l, level := l, phase := .steady } }
    counters := s.counters.set n (s.counterAfter n (Level.dir l))
    offers := s.offers ++ [.edge n (Level.dir l)
      (if s.countsEdge n (Level.dir l) then some (s.counterAfter n (Level.dir l)) else none)] }

/-- An edge that is not vetoed is counted and offered, and its records are written (R3). -/
theorem qualifyLine_of_not_vetoed {n : Fin 16} {s : State} (l : Level) (h : ¬ Vetoed n s) :
    qualifyLine n l s = write (edgeRecords n (Level.dir l) s) (edgeCounted n l s) :=
  if_neg (mt (vetoed_iff n s).1 h)

theorem admits_eq (x : RecordSetting) (d : Dir) : admits x d = x.records d := by
  cases x <;> cases d <;> rfl

/-- `edgeTaken` is the edge counted, with its records in the ring and its offer dropped (R3). -/
theorem edgeTaken_eq (n : Fin 16) (l : Level) (s : State) :
    edgeTaken n l s = { edgeCounted n l s with
      ring := logged s.time.group (edgeRecords n (Level.dir l) s) s.ring, offers := s.offers } := by
  simp only [edgeTaken, edgeCounted, edgeRecords, State.counterAfter, State.countsEdge, admits_eq, beq_iff_eq,
    Bool.and_eq_true]
  rfl

/-- With no episode open and no unit armed, an event that takes an edge ends in `edgeTaken` (R3, R4, R10). -/
theorem settle_qualifyLine {n : Fin 16} {l : Level} {s : State} (hs : OffersTaken s) (hc : s.ctrl.current = none)
    (hu : s.units = disarmedUnits) (hv : ¬ Vetoed n s) : settle (qualifyLine n l s) = edgeTaken n l s := by
  rw [qualifyLine_of_not_vetoed l hv, write_of_no_episode _ (edgeCounted n l s) hc, settle_of_quiet, edgeTaken_eq, hs]
  · rfl
  · exact .inr hu

/-- A vetoed edge brings no offer to take (R8). -/
theorem settle_qualifyLine_of_vetoed {n : Fin 16} {l : Level} {s : State} (hs : OffersTaken s) (hv : Vetoed n s) :
    settle (qualifyLine n l s) = s.setLine n { pin := l, level := l, phase := .steady } := by
  rw [qualifyLine_of_vetoed l hv]
  exact settle_of_no_offers _ hs

/-- Once an edge is counted, its event leaves alone what capture and the units leave alone (R3). -/
theorem unitsFrame_settle_qualifyLine {n : Fin 16} {l : Level} {s : State} (hv : ¬ Vetoed n s) :
    UnitsFrame (edgeCounted n l s) (settle (qualifyLine n l s)) := by
  rw [qualifyLine_of_not_vetoed l hv]
  exact (captureFrame_write _ _).toUnits.trans (unitsFrame_settle _)

/-! ### The statements -/

/-- Settles O18: with no episode open the records go to the ring alone, and with no unit armed the offer is dropped. -/
theorem qualifiedEdgeCountedAndRecorded : Obligations.QualifiedEdgeCountedAndRecorded := by
  intro n s ⟨hr, hs⟩ hc hu hv
  refine ⟨fun since inForce hp hd => ?_, fun l hl hp hlev hq => ?_⟩
  · rw [exec_qualificationTimerExpiry hr hp hd, settle_qualifyLine hs hc hu hv]
  · rw [exec_linePinChange hr hl, moveLine_at_once hp hlev hq, settle_qualifyLine hs hc hu hv]

/-- Settles O19: the frame of the records and of the units, from the state in which the edge has been counted. -/
theorem qualifiedEdgeLeavesTheRest : Obligations.QualifiedEdgeLeavesTheRest := by
  intro n since inForce s ⟨hr, _⟩ hv hp hd
  have frame := unitsFrame_settle_qualifyLine (l := (s.line n).pin) hv
  refine ⟨_, exec_qualificationTimerExpiry hr hp hd, ?_, ?_, frame.power, frame.station, frame.config, frame.peers,
    frame.time, frame.rx, frame.latch, frame.failures, frame.commands, frame.response, frame.localHold,
    frame.groupHold, offersTaken_settle _⟩
  · rw [edgeTaken_eq]; exact frame.lines
  · rw [edgeTaken_eq]; exact frame.counters

/-- Settles O20: the rows of R1 and R2, and the veto of R8. -/
theorem linePinIsTimedAndVetoed : Obligations.LinePinIsTimedAndVetoed := by
  refine ⟨fun n l s ⟨hr, hs⟩ =>
      ⟨exec_linePinChange_same, fun hl hp hlev hq => ?_, fun since inForce hl hp hlev => ?_⟩,
    fun n s ⟨hr, hs⟩ hv => ⟨fun since inForce hp hd => ?_, fun l hl hp hlev hq => ?_⟩⟩
  · rw [exec_linePinChange hr hl, moveLine_timed hp hlev hq, settle_of_no_offers (s.setLine n _) hs]
  · rw [exec_linePinChange hr hl, moveLine_back hp hlev, settle_of_no_offers (s.setLine n _) hs]
  · rw [exec_qualificationTimerExpiry hr hp hd, settle_qualifyLine_of_vetoed hs hv]
  · rw [exec_linePinChange hr hl, moveLine_at_once hp hlev hq, settle_qualifyLine_of_vetoed hs hv]

/-- The record that a change of VETO writes (R6). -/
theorem vetoRecord_eq (l : Level) : vetoRecord l = if l = .high then .vetoOn else .vetoOff := by
  cases l <;> rfl

/-- Settles O21: the rows of R1 under 10 µs, and the record of R6. -/
theorem vetoIsTimedAndRecorded : Obligations.VetoIsTimedAndRecorded := by
  intro s ⟨hr, hs⟩
  refine ⟨fun l => exec_vetoPinChange_same, fun l hl hp hlev => ?_, fun l since inForce hl hp hlev => ?_,
    fun since inForce hc hp hd => ?_⟩
  · rw [exec_vetoPinChange hr hl, moveVeto_timed hp hlev]; rfl
  · rw [exec_vetoPinChange hr hl, moveVeto_back hp hlev]; rfl
  · rw [exec_vetoQualificationExpiry hr hp hd, qualifyVeto, write_of_no_episode, settle_of_no_offers, vetoRecord_eq]
    · rfl
    · exact hs
    · exact hc

end Sys2Proof.Machine
end

section
/-! PROOFS. Group commands of a peer (R12, R70, R126, R130, R131). -/

namespace Sys2Proof.Machine

open Sys2Proof.Machine.Claims

/-! ### A message of a peer reaches its owner -/

/-- A valid message of a peer that can come to its end is judged and taken to its owner (R66, R68, R70). -/
theorem dispatch_of_hearsOut {a : Address} {s : State} (h : HearsOut s a) (owner : State → State) :
    dispatch true a owner s = .next (settle (owner (s.setLink s.link.judged))) := by
  obtain ⟨⟨hr, -⟩, hrx, hlatch, hattempt, ha, hown⟩ := h
  have hears : s.hears = true := by
    simp [State.hears, Link.assembling, hr, hrx, hattempt, Option.isSome_iff_ne_none, hlatch]
  simp [dispatch, hears, ha, hown]

/-- The peer monitor's part in the message of a peer that is not LOST (R66, R73). -/
theorem hearPeer_judged {a : Address} {s : State} (h : (s.peer a).state ≠ .lost) :
    hearPeer a (s.setLink s.link.judged) = heard a s :=
  hearPeer_of_not_lost a _ h

/-- Hearing a peer brings no offer (R34). -/
theorem offersTaken_heard {a : Address} {s : State} (h : Receives s a) : OffersTaken (heard a s) := by
  obtain ⟨⟨⟨-, hoffers⟩, -⟩, -⟩ := h
  exact hoffers

/-- A group command of a peer is applied to the state in which the peer has been heard (R70, R73). -/
theorem dispatch_applyCommand {a : Address} {s : State} (h : Receives s a) (c : GroupCommand) (mask : Mask) :
    dispatch true a (fun s1 => applyCommand c mask (hearPeer a s1)) s =
      .next (settle (applyCommand c mask (heard a s))) := by
  obtain ⟨hout, hlost⟩ := h
  rw [dispatch_of_hearsOut hout, hearPeer_judged hlost]

/-! ### The group commands (R12, R130, R131) -/

/-- A clear that offers nothing, or whose offer no unit takes, clears the counters of its mask alone (R11, R12). -/
theorem settle_clearCounters {mask : Mask} {s : State} (hs : OffersTaken s) (hq : ClearsQuietly mask s) :
    settle (clearCounters mask s) = cleared mask s := by
  by_cases h : changedBy mask s.counters = []
  · rw [clearCounters_of_unchanged mask s h]
    exact settle_of_no_offers _ hs
  · have hu : s.units = disarmedUnits := hq.resolve_left (mt (changedBy_eq_nil_iff mask s.counters).2 h)
    rw [clearCounters_of_changed mask s h, settle_of_quiet, ← hs]
    · rfl
    · exact .inr hu

/-- A change of hold that has no causes to discard sets its flag and asks for a beacon (R131). -/
theorem holdChanged_of_empty (v : Bool) (s : State) (h : v = true → s.ctrl.register = none) :
    holdChanged v s = (s.raise .hold).requestBeacon := by
  cases v with
  | false => rfl
  | true => simp [holdChanged, discardRegister, h rfl]

/-- A beacon request changes the transmit list alone, and reads the station state and the list alone (R60, R78). -/
theorem requestBeacon_eq {s t : State} (hs : t.station = s.station) (hl : t.link = s.link) :
    t.requestBeacon = t.setLink s.requestBeacon.link := by
  rw [State.requestBeacon_link, ← hs, ← hl]
  unfold State.requestBeacon
  split <;> rfl

/-- A change of the group hold sets its flag and asks for a beacon (R130, R131). -/
theorem groupHoldTo_of_ne {v : Bool} {s : State} (h : s.ctrl.groupHold ≠ v) :
    groupHoldTo v s =
      ((s.setCtrl { s.ctrl with groupHold := v }).raise .hold).setLink s.requestBeacon.link := if_neg h

theorem setGroupHold_of_ne {v : Bool} {s : State} (h : s.ctrl.groupHold ≠ v) :
    setGroupHold v s = holdChanged v (s.setCtrl { s.ctrl with groupHold := v }) := if_neg h

/-- The group hold changes, with nothing in the register to discard (R130, R131). -/
theorem setGroupHold_of_empty (v : Bool) (s : State) (h : v = true → s.ctrl.register = none) :
    setGroupHold v s = groupHoldTo v s := by
  by_cases hv : s.ctrl.groupHold = v
  · simp [setGroupHold, groupHoldTo, hv]
  · rw [setGroupHold_of_ne hv, holdChanged_of_empty, groupHoldTo_of_ne hv]
    · exact requestBeacon_eq rfl rfl
    · exact h

/-- A hold that finds causes in the register discards them, with no episode open (R126, R131). -/
theorem setGroupHold_of_occupied {h : HeldTrigger} {s : State} (hr : s.ctrl.register = some h) (hc : h.causes ≠ [])
    (ho : s.ctrl.current = none) (hg : s.ctrl.groupHold = false) :
    setGroupHold true s =
      groupHoldTo true (suppressed .hold (h.causes.map Prod.fst)
        { s with ctrl := { s.ctrl with register := none } }) := by
  have hdiscard : discardRegister (s.setCtrl { s.ctrl with groupHold := true }) =
      suppressed .hold (h.causes.map Prod.fst)
        { s with ctrl := { s.ctrl with groupHold := true, register := none } } := by
    simp only [discardRegister, State.setCtrl_ctrl, hr]
    exact suppress_of_no_episode .hold _ _ (by simpa using hc) ho
  rw [setGroupHold_of_ne (ne_true_of_eq_false hg), groupHoldTo_of_ne]
  · show ((discardRegister _).raise .hold).requestBeacon = _
    rw [hdiscard]
    exact requestBeacon_eq rfl rfl
  · exact ne_true_of_eq_false hg

theorem groupHoldTo_offers (v : Bool) (s : State) : (groupHoldTo v s).offers = s.offers := by
  unfold groupHoldTo; split <;> rfl

/-- RESUME clears the group hold, and in ROLLCALL the hold mark first (R82, R130). -/
theorem applyResume_eq (s : State) : applyResume s = applied .resume 0#16 s :=
  setGroupHold_of_empty false _ nofun

theorem applied_resume_offers (s : State) : (applied .resume 0#16 s).offers = s.offers := by
  refine (groupHoldTo_offers false _).trans ?_
  split <;> rfl

/-! ### The statement -/

/-- Settles O39: the message reaches its owner with its peer heard, and the command meets the counters, the EMPTY
register, or the causes that it discards. -/
theorem peerGroupCommandsAreApplied : Obligations.PeerGroupCommandsAreApplied := by
  refine ⟨fun a mask s hrec => ?_, fun a h s hrec ho hr hc hg => ?_⟩
  · have hs := offersTaken_heard hrec
    refine ⟨fun hq => ?_, fun hr => ?_, ?_⟩
    · exact (dispatch_applyCommand hrec .clearCounters mask).trans
        (congrArg _ (settle_clearCounters hs hq))
    · refine (dispatch_applyCommand hrec .hold 0#16).trans (congrArg _ ?_)
      rw [applyCommand, setGroupHold_of_empty true (heard a s) (fun _ => hr),
        settle_of_no_offers _ ((groupHoldTo_offers _ _).trans hs)]
      rfl
    · refine (dispatch_applyCommand hrec .resume 0#16).trans (congrArg _ ?_)
      rw [applyCommand, applyResume_eq, settle_of_no_offers _ ((applied_resume_offers _).trans hs)]
  · have hs := offersTaken_heard hrec
    refine (dispatch_applyCommand hrec .hold 0#16).trans (congrArg _ ?_)
    rw [applyCommand, setGroupHold_of_occupied (s := heard a s) hr hc ho hg, settle_of_no_offers]
    · rfl
    · exact (groupHoldTo_offers _ _).trans hs

end Sys2Proof.Machine
end

section
/-! PROOFS. The commands of the control port that report and change nothing (R15, R164). -/

namespace Sys2Proof.Machine

open Sys2Proof.Machine.Claims

theorem releasing_of_atRelease {s : State} (h : AtRelease s) : s.releasing = true := by
  obtain ⟨hsupply, hreset, sa, rest, hpending⟩ := h
  simp [State.releasing, hsupply, hreset, hpending]

/-- A port that listens takes the command whole (R152, R161). -/
theorem transact_of_listens {f : State → State} {s : State} (h : Listens s) : transact f s = .next (f s) := by
  obtain ⟨hbus, hrun⟩ := h
  refine if_pos ⟨hbus, ?_⟩
  rcases hrun with hr | hr
  · simp [hr]
  · simp [releasing_of_atRelease hr]

/-- The two ways to count FREE slots agree (R135, R164). -/
theorem freeCount_eq (s : State) : freeCount s = s.store.freeSlots := by
  rw [freeCount, Store.freeSlots, List.countP_eq_length_filter]
  congr 2
  funext x
  cases x <;> rfl

theorem exec_status {s : State} (h : Listens s) :
    exec .status s = .next (s.answer { result := .ok, body := .status (statusReport s) }) := by
  show execStatus s = _
  rw [execStatus, transact_of_listens h]

theorem exec_readCounters {s : State} (h : Listens s) :
    exec .readCounters s = .next (s.answer
      { result := .ok
        body := .counters s.counters (vecOf 16 (fun n => (s.line n).level)) s.lines.veto.level s.time.group }) := by
  show execReadCounters s = _
  rw [execReadCounters, transact_of_listens h]

/-- Settles O51: each report is of the state that the port answers from. -/
theorem statusAndCountersReport : Obligations.StatusAndCountersReport := by
  intro s h
  refine ⟨?_, exec_readCounters h⟩
  rw [exec_status h, freeCount_eq]
  rfl

end Sys2Proof.Machine
end

section
/-! PROOFS. The history ring (Chapter 2): writing a record, and reading through the host's cursor. -/

namespace Sys2Proof.Machine

open Sys2Proof.Machine.Claims

/-! ### Writing a record (R18, R20, R27) -/

/-- In a ring of at most 256 records, full means 256 records (R18). -/
theorem Ring.full_iff {r : Ring} (h : r.records.length ≤ ringCapacity) :
    r.full = true ↔ r.records.length = 256 := by
  have hc : ringCapacity = 256 := rfl
  simp only [Ring.full, decide_eq_true_eq]
  omega

theorem Ring.put_records (r : Ring) (x : Record) :
    (r.put x).records = (if r.full then r.records.tail else r.records) ++ [x] := rfl

theorem Ring.moveCursor_notStarted {r : Ring} (x : Record) (h : r.cursor = .notStarted) :
    r.moveCursor x = .notStarted := by
  simp only [Ring.moveCursor, h]

theorem Ring.moveCursor_lost {r : Ring} {q : BitVec 16} (x : Record) (h : r.cursor = .lost q) :
    r.moveCursor x = .lost q := by
  simp only [Ring.moveCursor, h]

theorem Ring.moveCursor_waiting {r : Ring} {q : BitVec 16} (x : Record) (h : r.cursor = .waiting q) :
    r.moveCursor x = if q = x.seq then .valid q else .waiting q := by
  simp only [Ring.moveCursor, h]

theorem Ring.moveCursor_valid {r : Ring} {q : BitVec 16} (x : Record) (h : r.cursor = .valid q) :
    r.moveCursor x =
      if r.full = true ∧ r.records.head?.map Record.seq = some q then .lost q else .valid q := by
  simp only [Ring.moveCursor, h, Bool.and_eq_true, beq_iff_eq]

/-- Settles O22: whatever the hand-over does, the ring takes the record by `Ring.put`. -/
theorem writeEntersTheRing : Obligations.WriteEntersTheRing := by
  intro b s hlen
  have hfull := Ring.full_iff hlen
  dsimp only
  rw [writeOne_ring]
  refine ⟨?_, rfl, Ring.moveCursor_notStarted _, fun q => Ring.moveCursor_lost _, fun q => Ring.moveCursor_waiting _,
    fun q hq => ?_⟩
  · rw [Ring.put_records]
    simp only [hfull]
    rfl
  · rw [Ring.put_cursor, Ring.moveCursor_valid _ hq]
    simp only [hfull]

/-! ### Reading (R26, R28) -/

theorem Ring.restartCursor_cons {r : Ring} {x : Record} {rest : List Record} (h : r.records = x :: rest) :
    r.restartCursor = { r with cursor := .valid x.seq } := by
  simp only [Ring.restartCursor, h]

theorem Ring.restartCursor_nil {r : Ring} (h : r.records = []) :
    r.restartCursor = { r with cursor := .waiting r.nextSeq } := by
  simp only [Ring.restartCursor, h]

theorem exec_readHistory {s : State} (h : Listens s) :
    exec .readHistory s = .next ((s.setRing s.ring.restartCursor).answer
      { result := .ok
        body := .history s.ring.records.length (s.ring.records.head?.map Record.seq) s.ring.nextSeq }) := by
  show execReadHistory s = _
  rw [execReadHistory, transact_of_listens h]

/-- Settles O23: the two cases of `Ring.restartCursor`. -/
theorem readHistoryStartsTheCursor : Obligations.ReadHistoryStartsTheCursor := by
  intro s h
  refine ⟨fun rec rest hr => ?_, fun hr => ?_⟩
  · have holdest : s.ring.records.head?.map Record.seq = some rec.seq := by rw [hr]; rfl
    rw [exec_readHistory h, Ring.restartCursor_cons hr, holdest]
    rfl
  · have holdest : s.ring.records.head?.map Record.seq = none := by rw [hr]; rfl
    rw [exec_readHistory h, Ring.restartCursor_nil hr, holdest, List.length_eq_zero_iff.2 hr]
    rfl

theorem countInRange_iff (n : Byte) : countInRange n = true ↔ 1 ≤ n.toNat ∧ n.toNat ≤ 16 := by
  simp [countInRange]

theorem exec_readHistoryNext {n : Byte} {s : State} (h : Listens s) (hn : countInRange n = true) :
    exec (.readHistoryNext n) s =
      .next ((s.setRing (s.ring.readNext n.toNat).1).answer (s.ring.readNext n.toNat).2) := by
  show execReadHistoryNext n s = _
  rw [execReadHistoryNext, transact_of_listens h, if_pos hn]

theorem exec_readHistoryNext_of_range {n : Byte} {s : State} (h : Listens s) (hn : ¬ countInRange n = true) :
    exec (.readHistoryNext n) s = .next (s.result .range) := by
  show execReadHistoryNext n s = _
  rw [execReadHistoryNext, transact_of_listens h, if_neg hn]

theorem Ring.readNext_notStarted {r : Ring} (n : Nat) (h : r.cursor = .notStarted) :
    r.readNext n = (r, { result := .noSelection, body := .empty }) := by
  simp only [Ring.readNext, h]

theorem Ring.readNext_waiting {r : Ring} {q : BitVec 16} (n : Nat) (h : r.cursor = .waiting q) :
    r.readNext n = (r, { result := .atEnd, body := .empty }) := by
  simp only [Ring.readNext, h]

theorem Ring.readNext_lost {r : Ring} {q : BitVec 16} (n : Nat) (h : r.cursor = .lost q) :
    r.readNext n = (r.restartCursor, { result := .ok, body := .skipped }) := by
  simp only [Ring.readNext, h]

theorem Ring.readNext_valid {r : Ring} {q : BitVec 16} (n : Nat) (h : r.cursor = .valid q) :
    r.readNext n = ({ r with cursor := r.cursorAt ((r.since q).drop n) },
      { result := .ok, body := .records ((r.since q).take n) }) := by
  simp only [Ring.readNext, h]

/-- From the first record of a sequence number on, `since` keeps all. -/
theorem Ring.since_eq {r : Ring} {q : BitVec 16} {older unread : List Record} {x : Record}
    (h : r.records = older ++ x :: unread) (hx : x.seq = q) (hold : ∀ y ∈ older, y.seq ≠ q) :
    r.since q = x :: unread := by
  rw [Ring.since, h, List.dropWhile_append_of_pos (fun y hy => bne_iff_ne.2 (hold y hy)),
    List.dropWhile_cons_of_neg (by simp [hx])]

/-- Settles O24: the rows of `Ring.readNext`. -/
theorem readHistoryNextByCursor : Obligations.ReadHistoryNextByCursor := by
  intro n s h
  refine ⟨fun hn => exec_readHistoryNext_of_range h ?_, fun h1 h16 => ?_⟩
  · rw [countInRange_iff]; omega
  · have hread := exec_readHistoryNext h ((countInRange_iff n).2 ⟨h1, h16⟩)
    refine ⟨fun hc => ?_, fun q hc => ?_, fun q rec rest hc hr => ?_, fun q older rec unread hc hq hr hold => ?_⟩
    · rw [hread, Ring.readNext_notStarted _ hc]; rfl
    · rw [hread, Ring.readNext_waiting _ hc]; rfl
    · rw [hread, Ring.readNext_lost _ hc, Ring.restartCursor_cons hr]; rfl
    · obtain ⟨m, hm⟩ : ∃ m, n.toNat = m + 1 := ⟨n.toNat - 1, by omega⟩
      rw [hread, Ring.readNext_valid _ hc, Ring.since_eq hr hq hold, hm]
      simp only [List.drop_succ_cons, List.take_succ_cons, Nat.add_sub_cancel]
      rfl

end Sys2Proof.Machine
end

section
/-! PROOFS. What every step keeps of the ring and of group time (R18 to R20, R27, R87). -/

namespace Sys2Proof.Machine

open Sys2Proof.Machine.Claims

/-! ### Soundness of the ring -/

/-- The sequence numbers of a list of records are an unbroken run that ends before `q` (R20). -/
def RunsTo (l : List Record) (q : BitVec 16) : Prop :=
  ∀ k, (h : k < l.length) → l[k].seq = q - BitVec.ofNat 16 (l.length - k)

theorem Ring.numbered_iff (r : Ring) :
    r.Numbered ↔ r.records.length ≤ ringCapacity ∧ RunsTo r.records r.nextSeq := Iff.rfl

theorem RunsTo.tail {l : List Record} {q : BitVec 16} (h : RunsTo l q) : RunsTo l.tail q := by
  intro k hk
  have hl : l.tail.length - k = l.length - (k + 1) := by rw [List.length_tail]; omega
  rw [List.getElem_tail, hl]
  exact h (k + 1) _

theorem RunsTo.append {l : List Record} {q : BitVec 16} {x : Record} (h : RunsTo l q) (hx : x.seq = q) :
    RunsTo (l ++ [x]) (q + 1#16) := by
  have hnext : ∀ n : Nat, q - BitVec.ofNat 16 n = q + 1#16 - BitVec.ofNat 16 (n + 1) := by
    intro n
    rw [BitVec.ofNat_add, BitVec.add_comm (BitVec.ofNat 16 n), ← BitVec.sub_sub, BitVec.add_sub_cancel]
  intro k hk
  rw [List.length_append, List.length_singleton] at hk ⊢
  by_cases hlast : k = l.length
  · subst hlast
    rw [List.getElem_concat_length rfl, hx, Nat.add_sub_cancel_left]
    exact (BitVec.add_sub_cancel q 1#16).symm
  · have hlt : k < l.length := by omega
    rw [List.getElem_append_left hlt, h k hlt, hnext, Nat.sub_add_comm (Nat.le_of_lt hlt)]

/-- A write keeps the numbering, where the record takes the next sequence number (R18, R20). -/
theorem Ring.Numbered.put {r : Ring} {x : Record} (h : r.Numbered) (hx : x.seq = r.nextSeq) :
    (r.put x).Numbered := by
  obtain ⟨hlen, hrun⟩ := (Ring.numbered_iff r).1 h
  refine (Ring.numbered_iff _).2 ⟨?_, ?_⟩
  · rw [Ring.put_length r x hlen]
    exact Nat.min_le_left _ _
  · rw [Ring.put_records, Ring.put_nextSeq]
    split
    · exact hrun.tail.append hx
    · exact hrun.append hx

theorem Ring.mem_put_self (r : Ring) (x : Record) : x ∈ (r.put x).records := by
  simp [Ring.put_records]

/-- A record that is not the oldest one stays at a write (R18). -/
theorem Ring.mem_put_of_mem {r : Ring} {x y : Record} (h : y ∈ r.records)
    (hkeep : ¬ (r.full = true ∧ r.records.head? = some y)) : y ∈ (r.put x).records := by
  rw [Ring.put_records]
  apply List.mem_append_left
  split
  · rename_i hfull
    cases hr : r.records with
    | nil => rw [hr] at h; exact nomatch h
    | cons z rest =>
      rw [hr] at h hkeep
      rcases List.mem_cons.1 h with hz | hrest
      · exact absurd ⟨hfull, congrArg some hz.symm⟩ hkeep
      · exact hrest
  · exact h

/-- A write keeps the cursor sound (R27): a VALID cursor whose record leaves becomes LOST, and a WAITING one has met its
record. -/
theorem Ring.CursorSound.put {r : Ring} {x : Record} (h : r.CursorSound) (hx : x.seq = r.nextSeq) :
    (r.put x).CursorSound := by
  unfold Ring.CursorSound at h ⊢
  rw [Ring.put_cursor]
  cases hc : r.cursor with
  | notStarted => rw [Ring.moveCursor_notStarted x hc]; trivial
  | lost q =>
    rw [Ring.moveCursor_lost x hc]
    exact List.ne_nil_of_mem (r.mem_put_self x)
  | waiting q =>
    rw [hc] at h
    rw [Ring.moveCursor_waiting x hc, if_pos (h.trans hx.symm)]
    exact ⟨x, r.mem_put_self x, hx.trans h.symm⟩
  | valid q =>
    rw [hc] at h
    obtain ⟨y, hy, hq⟩ := h
    rw [Ring.moveCursor_valid x hc]
    by_cases hgone : r.full = true ∧ r.records.head?.map Record.seq = some q
    · rw [if_pos hgone]
      exact List.ne_nil_of_mem (r.mem_put_self x)
    · rw [if_neg hgone]
      refine ⟨y, Ring.mem_put_of_mem hy fun ⟨hfull, hhead⟩ => hgone ⟨hfull, ?_⟩, hq⟩
      rw [hhead, Option.map_some, hq]

/-- The cursor stands soundly before records that are the newest ones of the ring (R26, R28). -/
theorem Ring.cursorSound_cursorAt {r : Ring} {unread : List Record} (h : ∀ y ∈ unread, y ∈ r.records) :
    ({ r with cursor := r.cursorAt unread } : Ring).CursorSound := by
  cases unread with
  | nil => exact rfl
  | cons y rest => exact ⟨y, h y List.mem_cons_self, rfl⟩

theorem Ring.restartCursor_eq (r : Ring) : r.restartCursor = { r with cursor := r.cursorAt r.records } := by
  unfold Ring.restartCursor Ring.cursorAt
  cases r.records <;> rfl

/-- The ring's numbering and its cursor are sound. -/
def Ring.Sound (r : Ring) : Prop :=
  r.Numbered ∧ r.CursorSound

theorem Ring.Sound.put {r : Ring} {x : Record} (h : r.Sound) (hx : x.seq = r.nextSeq) : (r.put x).Sound :=
  ⟨h.1.put hx, h.2.put hx⟩

theorem Ring.sound_empty : emptyRing.Sound :=
  ⟨⟨Nat.zero_le _, fun _ hk => absurd hk (Nat.not_lt_zero _)⟩, trivial⟩

/-- A sound ring stays sound where the host's cursor moves to records of it, or past them (R26, R28). -/
theorem Ring.Sound.cursorAt {r : Ring} {unread : List Record} (h : r.Sound) (hu : ∀ y ∈ unread, y ∈ r.records) :
    ({ r with cursor := r.cursorAt unread } : Ring).Sound :=
  ⟨h.1, Ring.cursorSound_cursorAt hu⟩

theorem Ring.Sound.restartCursor {r : Ring} (h : r.Sound) : r.restartCursor.Sound := by
  rw [Ring.restartCursor_eq]
  exact h.cursorAt fun _ hy => hy

/-- READ HISTORY NEXT leaves the cursor sound, in every row of R28. -/
theorem Ring.Sound.readNext {r : Ring} (h : r.Sound) (n : Nat) : (r.readNext n).1.Sound := by
  cases hc : r.cursor with
  | notStarted => rw [Ring.readNext_notStarted n hc]; exact h
  | waiting q => rw [Ring.readNext_waiting n hc]; exact h
  | lost q => rw [Ring.readNext_lost n hc]; exact h.restartCursor
  | valid q =>
    rw [Ring.readNext_valid n hc]
    exact h.cursorAt fun y hy => (List.dropWhile_sublist _).subset (List.mem_of_mem_drop hy)

@[simp] theorem Ring.restartCursor_records (r : Ring) : r.restartCursor.records = r.records := rfl

/-- READ HISTORY NEXT takes no record from the ring (R28). -/
@[simp] theorem Ring.readNext_records (r : Ring) (n : Nat) : (r.readNext n).1.records = r.records := by
  unfold Ring.readNext
  split <;> rfl

/-! ### Order of the times in the ring (R19) -/

theorem Ring.Timed.mono {r : Ring} {g g' : Time} (h : r.Timed g) (hg : g ≤ g') : r.Timed g' :=
  ⟨h.1, fun x hx => BitVec.le_trans (h.2 x hx) hg⟩

/-- The times of a ring depend on its records alone. -/
theorem Ring.Timed.of_records {r r' : Ring} {g : Time} (h : r.Timed g) (hr : r'.records = r.records) :
    r'.Timed g := by
  unfold Ring.Timed
  rw [hr]
  exact h

theorem Ring.timed_empty (g : Time) : emptyRing.Timed g :=
  ⟨List.Pairwise.nil, fun _ hx => nomatch hx⟩

/-- A write puts its record behind some of the records there were (R18). -/
theorem Ring.put_records_sublist (r : Ring) (x : Record) :
    ∃ kept, kept.Sublist r.records ∧ (r.put x).records = kept ++ [x] := by
  refine ⟨_, ?_, r.put_records x⟩
  split
  · exact List.tail_sublist _
  · exact List.Sublist.refl _

/-- A record of the present time goes behind records that are not later (R19). -/
theorem Ring.Timed.put {r : Ring} {x : Record} {g : Time} (h : r.Timed g) (hx : x.time = g) : (r.put x).Timed g := by
  obtain ⟨hpair, hle⟩ := h
  obtain ⟨kept, hsub, hput⟩ := r.put_records_sublist x
  have hkept : ∀ y ∈ kept, y.time ≤ g := fun y hy => hle y (hsub.subset hy)
  have hlast : x.time ≤ g := hx ▸ BitVec.le_refl _
  unfold Ring.Timed
  rw [hput]
  refine ⟨?_, fun y hy => ?_⟩
  · rw [List.map_append, List.pairwise_append]
    refine ⟨hpair.sublist (hsub.map _), List.pairwise_singleton _ _, fun a ha b hb => ?_⟩
    obtain ⟨y, hy, rfl⟩ := List.mem_map.1 ha
    rw [List.mem_singleton.1 hb, hx]
    exact hkept y hy
  · rcases List.mem_append.1 hy with hold | hnew
    · exact hkept y hold
    · rw [List.mem_singleton.1 hnew]
      exact hlast

/-! ### Records written one after the other -/

theorem Ring.Sound.logged {r : Ring} (h : r.Sound) (g : Time) (bs : List RecordBody) : (logged g bs r).Sound := by
  induction bs generalizing r with
  | nil => exact h
  | cons b bs ih => exact ih (h.put rfl)

theorem Ring.Timed.logged {r : Ring} {g : Time} (h : r.Timed g) (bs : List RecordBody) : (logged g bs r).Timed g := by
  induction bs generalizing r with
  | nil => exact h
  | cons b bs ih => exact ih (h.put rfl)

theorem logged_append (g : Time) (bs cs : List RecordBody) (r : Ring) :
    logged g (bs ++ cs) r = logged g cs (logged g bs r) := List.foldl_append

end Sys2Proof.Machine
end

section
/-! PROOFS. What capture, units, lines, peers and messages do to the ring: they log records at the group time of the
moment, and leave the clocks alone (R19, R21). -/

namespace Sys2Proof.Machine

open Sys2Proof.Machine.Claims

/-- From `s` to `t` the clocks stand, and records, or none, have been written into the ring one after the other. -/
def Logs (s t : State) : Prop :=
  t.time = s.time ∧ ∃ bs, t.ring = logged s.time.group bs s.ring

theorem Logs.of_eq {s t : State} (ht : t.time = s.time) (hr : t.ring = s.ring) : Logs s t := ⟨ht, [], hr⟩

theorem Logs.refl (s : State) : Logs s s := Logs.of_eq rfl rfl

theorem Logs.trans {s t u : State} (h : Logs s t) (k : Logs t u) : Logs s u := by
  obtain ⟨ht, bs, hr⟩ := h
  obtain ⟨kt, cs, kr⟩ := k
  exact ⟨kt.trans ht, bs ++ cs, by rw [kr, ht, hr, logged_append]⟩

/-- An event that first changes neither ring nor clocks, and then logs records. -/
theorem Logs.after {s u t : State} (h : Logs u t) (ht : u.time = s.time) (hr : u.ring = s.ring) : Logs s t :=
  (Logs.of_eq ht hr).trans h

/-- An event that logs records, and then changes neither ring nor clocks. -/
theorem Logs.before {s u t : State} (h : Logs s u) (ht : t.time = u.time) (hr : t.ring = u.ring) : Logs s t :=
  h.trans (Logs.of_eq ht hr)

/-! ### Capture -/

theorem logs_updateBusy (s : State) : Logs s (updateBusy s) :=
  Logs.of_eq (captureFrame_updateBusy s).time (updateBusy_ring s)

theorem logs_closeCurrent (e : EndStatus) (s : State) : Logs s (closeCurrent e s) :=
  Logs.of_eq (captureFrame_closeCurrent e s).time (closeCurrent_ring e s)

theorem logs_writeOne (s : State) (b : RecordBody) : Logs s (writeOne s b) :=
  ⟨(captureFrame_writeOne s b).time, [b], writeOne_ring s b⟩

theorem logs_writeAll (bs : List RecordBody) (s : State) : Logs s (writeAll bs s) := by
  unfold writeAll
  induction bs generalizing s with
  | nil => exact Logs.refl s
  | cons b bs ih => exact (logs_writeOne s b).trans (ih _)

theorem logs_suppressAll (f : SuppressedFlag) (cs : List OwnCause) (s : State) : Logs s (suppressAll f cs s) := by
  cases cs with
  | nil => exact Logs.refl s
  | cons c cs => exact (logs_writeAll _ s).before rfl rfl

theorem logs_openIn (o : Opening) (i : Fin 8) (s : State) : Logs s (openIn o i s) :=
  ⟨(captureFrame_openIn o i s).time, [.anchor o.cause o.flag], openIn_ring o i s⟩

theorem logs_riseOpen (s : State) : Logs s s.riseOpen :=
  Logs.of_eq s.riseOpen_time s.riseOpen_ring

theorem logs_openLowest (o : Opening) (s : State) : Logs s (openLowest o s) := by
  rcases openLowest_cases o s with h | ⟨i, _, _, h⟩ <;> rw [h]
  · exact Logs.refl s
  · exact logs_openIn o i s

theorem logs_originate (c : OwnCause × Time) (cs : List (OwnCause × Time)) (ov : Bool) (s : State) :
    Logs s (originate c cs ov s).1 := by
  rcases originate_cases c cs ov s with ⟨f, h⟩ | ⟨i, s2, _, _, _, h2, h⟩
  · rw [h]; exact logs_suppressAll f _ s
  · rw [h, h2]
    have hnumber : Logs s (s.setCtrl { s.ctrl with highest := s.ctrl.highest + 1#32 }) := Logs.of_eq rfl rfl
    exact hnumber.trans ((logs_openIn _ i _).trans ((logs_riseOpen _).before rfl rfl))

theorem logs_examineRegister (s : State) : Logs s (examineRegister s) := by
  have hempty : Logs s (s.setCtrl { s.ctrl with register := none }) := Logs.of_eq rfl rfl
  rcases examineRegister_cases s with h | ⟨r, _, _, _, _, ⟨_, h⟩ | ⟨c, cs, _, h⟩⟩ <;> rw [h]
  · exact Logs.refl s
  · exact hempty
  · exact hempty.trans (logs_originate c cs _ _)

theorem Logs.examineAfter {s t : State} (h : Logs s t) (before : State) : Logs s (examineAfter before t) := by
  rcases examineAfter_cases before t with h1 | h1 <;> rw [h1]
  · exact h
  · exact h.trans (logs_examineRegister t)

theorem logs_write (bs : List RecordBody) (s : State) : Logs s (write bs s) :=
  (logs_writeAll bs s).examineAfter s

theorem logs_suppress (f : SuppressedFlag) (cs : List OwnCause) (s : State) : Logs s (suppress f cs s) :=
  (logs_suppressAll f cs s).examineAfter s

theorem logs_closeEpisode (e : EndStatus) (s : State) : Logs s (closeEpisode e s) :=
  (logs_closeCurrent e s).examineAfter s

theorem logs_evaluateGroupBusy (s : State) : Logs s (evaluateGroupBusy s) :=
  Logs.examineAfter (Logs.of_eq rfl rfl) s

theorem logs_evaluateBusy (s : State) : Logs s (evaluateBusy s) :=
  (logs_updateBusy s).examineAfter s

theorem logs_mapHeader (s : State) (f : Header → Header) : Logs s (s.mapHeader f) :=
  Logs.of_eq (captureFrame_mapHeader s f).time (mapHeader_ring s f)

/-! ### Requests -/

theorem logs_holdRequest (c : OwnCause) (t : Time) (s : State) : Logs s (holdRequest c t s).1 := by
  unfold holdRequest
  split
  · exact logs_suppress _ _ s
  · split
    · exact Logs.of_eq rfl rfl
    · split <;> exact Logs.of_eq rfl rfl

theorem logs_openLocal (c : OwnCause) (t : Time) (s : State) : Logs s (openLocal c t s).1 := by
  unfold openLocal
  split
  · exact logs_suppress _ _ s
  · split
    · exact logs_suppress _ _ s
    · exact (logs_openIn _ _ s).trans (logs_riseOpen _)

theorem logs_requestNoEpisode (c : OwnCause) (t : Time) (s : State) : Logs s (requestNoEpisode c t s).1 := by
  unfold requestNoEpisode
  split
  · exact logs_openLocal c t s
  · split
    · exact logs_holdRequest c t s
    · exact logs_originate _ _ _ s

/-- A request does no more to the ring than to log records, in every case of R97. -/
theorem logs_request (c : OwnCause) (t : Time) (s : State) : Logs s (request c t s).1 := by
  unfold request
  split
  · exact Logs.refl s
  · split
    · exact logs_suppress _ _ s
    · split
      · exact logs_mapHeader s _
      · exact logs_requestNoEpisode c t s

/-! ### Received TRIGGERs, beacon numbers and claims -/

theorem logs_raiseHighest (x : Word32) (s : State) : Logs s (raiseHighest x s) := by
  unfold raiseHighest
  split
  · exact Logs.of_eq rfl rfl
  · exact Logs.refl s

theorem logs_writeGap (n : Nat) (s : State) : Logs s (writeGap n s) := by
  unfold writeGap
  split
  · exact Logs.refl s
  · exact (logs_writeOne _ _).after rfl rfl

theorem logs_joinEpisode (m : TriggerMessage) (s : State) : Logs s (joinEpisode m s) := by
  unfold joinEpisode
  dsimp only
  have hcause := logs_mapHeader s (fun h => h.addCause (remoteEntry m))
  split
  · exact hcause
  · split
    · exact hcause.trans ((logs_mapHeader (State.withdrawTrigger _) _).before rfl rfl)
    · exact hcause.trans (logs_mapHeader _ _)
    · exact hcause

theorem logs_renumberByTrigger (m : TriggerMessage) (s : State) : Logs s (renumberByTrigger m s) :=
  (logs_mapHeader s _).before rfl rfl

theorem logs_triggerActions (c : TriggerCase) (m : TriggerMessage) (s : State) : Logs s (triggerActions c m s) := by
  cases c with
  | join => exact logs_joinEpisode m s
  | renumber => exact logs_renumberByTrigger m s
  | cut => exact logs_closeCurrent .cutByNext s
  | notCaptured => exact Logs.refl s
  | stale => exact Logs.refl s
  | follow => exact Logs.refl s
  | late => exact Logs.refl s

theorem logs_openFollower (m : TriggerMessage) (s : State) : Logs s (openFollower m s) :=
  (logs_openLowest _ _).after rfl rfl

theorem logs_followTrigger (c : TriggerCase) (m : TriggerMessage) (s : State) : Logs s (followTrigger c m s) := by
  unfold followTrigger
  split
  · exact logs_openFollower m s
  · exact (logs_openFollower m s).trans (logs_riseOpen _)

theorem logs_handleTrigger (c : TriggerCase) (m : TriggerMessage) (s : State) : Logs s (handleTrigger c m s) := by
  have hrecords : ∀ n b, Logs s (writeOne (writeGap n (raiseHighest m.number (triggerActions c m s))) b) := fun n b =>
    (logs_triggerActions c m s).trans ((logs_raiseHighest _ _).trans ((logs_writeGap n _).trans (logs_writeOne _ b)))
  unfold handleTrigger
  dsimp only
  split
  · exact (hrecords _ _).trans (logs_followTrigger c m _)
  · exact hrecords _ _

/-- A TRIGGER does no more to the ring than to log records, in every case of R104. -/
theorem logs_controllerTrigger (m : TriggerMessage) (s : State) : Logs s (controllerTrigger m s) :=
  (logs_handleTrigger _ m s).examineAfter s

theorem logs_renumberByBeacon (h : Word32) (s : State) : Logs s (renumberByBeacon h s) := by
  unfold renumberByBeacon
  split
  · split
    · split
      · split
        · exact (logs_raiseHighest h s).trans ((logs_mapHeader (State.withdrawTrigger _) _).before rfl rfl)
        · exact (logs_raiseHighest _ s).trans (logs_mapHeader _ _)
      · exact logs_raiseHighest h s
    · exact logs_raiseHighest h s
  · exact logs_raiseHighest h s

theorem logs_beaconNumber (h : Word32) (s : State) : Logs s (beaconNumber h s) :=
  ((logs_renumberByBeacon h s).trans (logs_writeGap _ _)).examineAfter s

theorem logs_announceClaim (s : State) : Logs s (announceClaim s) := by
  unfold announceClaim
  split
  · exact Logs.refl s
  · split
    · exact (logs_mapHeader s _).before rfl rfl
    · exact Logs.refl s

theorem logs_claimOvertakenByMute (s : State) : Logs s (claimOvertakenByMute s) := by
  unfold claimOvertakenByMute
  split
  · split
    · split
      · exact (logs_mapHeader s _).before rfl rfl
      · exact Logs.refl s
    · exact Logs.refl s
  · exact Logs.refl s

/-! ### Holds and the held trigger register -/

theorem logs_discardRegister (s : State) : Logs s (discardRegister s) := by
  unfold discardRegister
  split
  · exact Logs.refl s
  · exact (logs_suppress _ _ _).after rfl rfl

theorem logs_expireRegister (s : State) : Logs s (expireRegister s) := by
  unfold expireRegister
  split
  · exact Logs.refl s
  · exact (logs_suppress _ _ _).after rfl rfl

theorem logs_requestBeacon (s : State) : Logs s s.requestBeacon :=
  Logs.of_eq s.requestBeacon_time s.requestBeacon_ring

theorem logs_holdChanged (v : Bool) (s : State) : Logs s (holdChanged v s) := by
  have hflag : ∀ t : State, Logs t (t.raise .hold).requestBeacon := fun t =>
    (logs_requestBeacon _).after rfl rfl
  cases v with
  | false => exact hflag s
  | true => exact (logs_discardRegister s).trans (hflag _)

theorem logs_setLocalHold (v : Bool) (s : State) : Logs s (setLocalHold v s) := by
  unfold setLocalHold
  split
  · exact Logs.refl s
  · exact (logs_holdChanged v _).after rfl rfl

theorem logs_setGroupHold (v : Bool) (s : State) : Logs s (setGroupHold v s) := by
  unfold setGroupHold
  split
  · exact Logs.refl s
  · exact (logs_holdChanged v _).after rfl rfl

theorem logs_handOnHoldMark (s : State) : Logs s (handOnHoldMark s) := by
  unfold handOnHoldMark
  dsimp only
  split
  · exact (logs_setGroupHold true _).after rfl rfl
  · exact Logs.of_eq rfl rfl

/-! ### Units -/

theorem logs_fire (k : Fin 4) (s : State) : Logs s (fire k s) :=
  (logs_write _ s).trans (logs_request _ _ _)

theorem logs_settleUnit (k : Fin 4) (r : ArmedUnit × Bool) (s : State) : Logs s (settleUnit k r s) := by
  unfold settleUnit
  dsimp only
  split
  · split
    · exact (logs_fire k _).after rfl rfl
    · exact Logs.of_eq rfl rfl
  · exact Logs.of_eq rfl rfl

theorem logs_unitTakes (o : Offer) (s : State) (k : Fin 4) : Logs s (unitTakes o s k) := by
  unfold unitTakes
  split
  · exact Logs.refl s
  · exact logs_settleUnit k _ s

theorem logs_takeOfferIn (order : List (Fin 4)) (o : Offer) (s : State) : Logs s (takeOfferIn order o s) := by
  unfold takeOfferIn
  induction order generalizing s with
  | nil => exact Logs.refl s
  | cons k order ih => exact (logs_unitTakes o s k).trans (ih _)

theorem logs_takeOffer (o : Offer) (s : State) : Logs s (takeOffer o s) :=
  (logs_takeOfferIn _ o _).after rfl rfl

theorem logs_takeOffers (n : Nat) (s : State) : Logs s (takeOffers n s) := by
  induction n generalizing s with
  | zero => exact Logs.refl s
  | succ n ih =>
    unfold takeOffers
    split
    · exact Logs.refl s
    · exact ((logs_takeOffer _ _).trans (ih _)).after rfl rfl

/-- Whatever the units make of the offers brought, the ring has records logged at most (R34, R46). -/
theorem logs_settle (s : State) : Logs s (settle s) :=
  logs_takeOffers _ s

theorem Logs.settle {s t : State} (h : Logs s t) : Logs s (settle t) :=
  h.trans (logs_settle t)

theorem logs_expireWindow (k : Fin 4) (u : ArmedUnit) (s : State) : Logs s (expireWindow k u s) := by
  unfold expireWindow
  dsimp only
  split <;> exact logs_settleUnit k _ s

/-! ### Event lines and VETO -/

theorem logs_handleEdge (n : Fin 16) (d : Dir) (s : State) : Logs s (handleEdge n d s) :=
  (logs_write _ _).after rfl rfl

theorem logs_qualifyLine (n : Fin 16) (l : Level) (s : State) : Logs s (qualifyLine n l s) := by
  unfold qualifyLine
  dsimp only
  split
  · exact Logs.of_eq rfl rfl
  · exact (logs_handleEdge n _ _).after rfl rfl

theorem logs_moveLine (n : Fin 16) (l : Level) (s : State) : Logs s (moveLine n l s) := by
  unfold moveLine
  dsimp only
  split
  · split
    · exact Logs.of_eq rfl rfl
    · split
      · exact logs_qualifyLine n l s
      · exact Logs.of_eq rfl rfl
  · split <;> exact Logs.of_eq rfl rfl

theorem logs_qualifyVeto (l : Level) (s : State) : Logs s (qualifyVeto l s) :=
  (logs_write _ _).after rfl rfl

theorem logs_moveVeto (l : Level) (s : State) : Logs s (moveVeto l s) := by
  unfold moveVeto
  dsimp only
  split <;> split <;> exact Logs.of_eq rfl rfl

theorem logs_clearCounters (m : Mask) (s : State) : Logs s (clearCounters m s) := by
  unfold clearCounters
  dsimp only
  split <;> exact Logs.of_eq rfl rfl

/-! ### Peers and station states -/

theorem logs_hearPeer (a : Address) (s : State) : Logs s (hearPeer a s) := by
  unfold hearPeer
  dsimp only
  split
  · exact Logs.of_eq rfl rfl
  · exact Logs.of_eq rfl rfl
  · exact (logs_write _ _).after rfl rfl

theorem logs_noteBeacon (before : PeerEntry) (m : BeaconMessage) (s : State) : Logs s (noteBeacon before m s) := by
  unfold noteBeacon
  dsimp only
  split
  · exact Logs.of_eq rfl rfl
  · split
    · exact Logs.of_eq rfl rfl
    · exact (logs_write _ _).after rfl rfl

theorem logs_markHold (m : BeaconMessage) (s : State) : Logs s (markHold m s) := by
  unfold markHold
  split <;> exact Logs.of_eq rfl rfl

theorem logs_losePeer (a : Address) (s : State) : Logs s (losePeer a s) :=
  have hlost : Logs s (write [.peerLost a] (s.setPeer a (s.peer a).lose)) :=
    (logs_write _ _).after rfl rfl
  hlost.trans ((logs_evaluateGroupBusy _).after rfl rfl)

theorem logs_enterRollCall (s : State) : Logs s (enterRollCall s) :=
  (logs_requestBeacon _).after rfl rfl

theorem logs_armUnits (s : State) : Logs s (armUnits s) := Logs.of_eq rfl rfl

theorem logs_enterMute (r : MuteReason) (s : State) : Logs s (enterMute r s) := by
  unfold enterMute
  dsimp only
  refine Logs.trans ?_ (logs_claimOvertakenByMute _)
  split <;> split
  · exact (logs_handOnHoldMark _).after rfl rfl
  · exact Logs.of_eq rfl rfl
  · exact ((logs_handOnHoldMark _).trans (logs_armUnits _)).after rfl rfl
  · exact Logs.of_eq rfl rfl

theorem logs_enterByAddress (s : State) : Logs s (enterByAddress s) := by
  unfold enterByAddress
  split
  · exact logs_enterMute _ s
  · exact logs_enterRollCall s

theorem logs_endRollCall (s : State) : Logs s (endRollCall s) := by
  refine Logs.trans ?_ (logs_examineRegister _)
  exact ((logs_handOnHoldMark _).trans (logs_armUnits _)).after rfl rfl

/-! ### Attempts and messages -/

theorem logs_failAttempt (s : State) : Logs s (failAttempt s) := by
  unfold failAttempt
  dsimp only
  split
  · exact (logs_enterMute _ _).after rfl rfl
  · exact Logs.of_eq rfl rfl

theorem logs_applyResume (s : State) : Logs s (applyResume s) := by
  refine Logs.trans (Logs.of_eq ?_ ?_) (logs_setGroupHold false _) <;> split <;> rfl

theorem logs_applyCommand (c : GroupCommand) (argument : Mask) (s : State) : Logs s (applyCommand c argument s) := by
  cases c with
  | clearCounters => exact logs_clearCounters argument s
  | hold => exact logs_setGroupHold true s
  | resume => exact logs_applyResume s

theorem logs_reportSuccess (a : Attempt) (s : State) : Logs s (reportSuccess a s) := by
  unfold reportSuccess
  split
  · split
    · exact Logs.refl s
    · exact logs_announceClaim s
  · exact logs_applyCommand _ _ s
  · exact Logs.of_eq rfl rfl

theorem logs_takeOwnAddress (s : State) : Logs s (takeOwnAddress s) := by
  unfold takeOwnAddress
  split
  · exact logs_enterMute _ s
  · exact Logs.refl s

end Sys2Proof.Machine
end

section
/-! PROOFS. The ring's numbering, its cursor, the order of its times, and group time at its limit are kept by every step
(R18 to R20, R27, R87). -/

namespace Sys2Proof.Machine

open Sys2Proof.Machine.Claims

/-- The times of the ring are in order up to group time, which has stopped only at its limit (R19, R87). -/
def TimesSound (s : State) : Prop :=
  s.ring.Timed s.time.group ∧ TimeSound s

/-- An event from `s` to `t` keeps the ring sound, and its times. -/
structure KeepsHistory (s t : State) : Prop where
  ring : s.ring.Sound → t.ring.Sound
  times : TimesSound s → TimesSound t

theorem KeepsHistory.trans {s t u : State} (h : KeepsHistory s t) (k : KeepsHistory t u) : KeepsHistory s u :=
  ⟨fun hs => k.ring (h.ring hs), fun hs => k.times (h.times hs)⟩

/-! ### The four ways in which an event touches ring or clocks -/

/-- Records logged at the group time of the moment keep the ring sound (R19, R20). -/
theorem Logs.keeps {s t : State} (h : Logs s t) : KeepsHistory s t := by
  obtain ⟨ht, bs, hr⟩ := h
  refine ⟨fun hs => ?_, fun ⟨htimed, hstop⟩ => ⟨?_, ?_⟩⟩
  · rw [hr]; exact hs.logged _ bs
  · rw [hr, ht]; exact htimed.logged bs
  · unfold TimeSound; rw [ht]; exact hstop

theorem keepsHistory_refl (s : State) : KeepsHistory s s := (Logs.refl s).keeps

/-- The host's cursor moves: the clocks stand, and so do the records. -/
theorem keepsHistory_of_cursor {s t : State} (ht : t.time = s.time) (hr : t.ring.records = s.ring.records)
    (hsound : s.ring.Sound → t.ring.Sound) : KeepsHistory s t := by
  refine ⟨hsound, fun ⟨htimed, hstop⟩ => ⟨?_, ?_⟩⟩
  · rw [ht]; exact htimed.of_records hr
  · unfold TimeSound; rw [ht]; exact hstop

/-- A restart empties the ring, with group time kept, or at 0 after a POWER restart (R29, R87). -/
theorem keepsHistory_of_emptied {s t : State} (hr : t.ring = emptyRing)
    (ht : t.time = s.time ∨ t.time = powerOnTime) : KeepsHistory s t := by
  refine ⟨fun _ => hr ▸ Ring.sound_empty, fun ⟨_, hstop⟩ => ⟨hr ▸ Ring.timed_empty _, ?_⟩⟩
  unfold TimeSound
  rcases ht with ht | ht <;> rw [ht]
  · exact hstop
  · exact nofun

/-- Group time rises, or stops at its limit (R87, R89). -/
theorem keepsHistory_of_time {s t : State} (hr : t.ring = s.ring) (hg : s.time.group ≤ t.time.group)
    (hstop : TimeSound s → TimeSound t) : KeepsHistory s t :=
  ⟨fun hs => hr ▸ hs, fun ⟨htimed, hs⟩ => ⟨hr ▸ htimed.mono hg, hstop hs⟩⟩

/-! ### Group time -/

theorem Time.le_limit (g : Time) : g ≤ Time.limit := by
  have hg := g.isLt
  have hlimit : Time.limit.toNat = 2 ^ 48 - 1 := rfl
  rw [BitVec.le_def, hlimit]
  omega

theorem Time.le_succ {g : Time} (h : g ≠ Time.limit) : g ≤ g + 1#48 := by
  have hg := g.isLt
  have hne : g.toNat ≠ 281474976710655 := fun e => h (BitVec.eq_of_toNat_eq e)
  rw [BitVec.le_def, BitVec.toNat_add]
  show g.toNat ≤ (g.toNat + 1) % 2 ^ 48
  omega

/-- A microsecond never lowers group time (R87). -/
theorem TimeBase.group_le_tick (x : TimeBase) : x.group ≤ x.tick.group := by
  unfold TimeBase.tick
  dsimp only
  split
  · exact BitVec.le_refl _
  · rename_i h
    simp only [Bool.or_eq_true, beq_iff_eq, not_or] at h
    exact Time.le_succ h.2

theorem TimeBase.tick_of_stopped {x : TimeBase} (h : x.stopped = true) : x.tick.group = x.group := by
  simp [TimeBase.tick, h]

theorem keepsHistory_tick (s : State) : KeepsHistory s (tick s) := by
  unfold tick
  split
  · refine keepsHistory_of_time rfl s.time.group_le_tick fun hs (hstopped : s.time.stopped = true) => ?_
    exact (TimeBase.tick_of_stopped hstopped).trans (hs hstopped)
  · exact keepsHistory_refl s

/-- Group time that has stopped at its limit stays there at a step (R87, R89). -/
theorem steppedTime_limit (l x : Time) : steppedTime Time.limit l x = Time.limit :=
  BitVec.le_antisymm (Time.le_limit _) (le_steppedTime _ l x)

/-- A step of group time raises it before its TIME-STEP record is written (R89, R90). -/
theorem keepsHistory_stepTime (a : Address) (l x : Time) (s : State) : KeepsHistory s (stepTime a l x s) := by
  unfold stepTime
  dsimp only
  split
  · exact keepsHistory_refl s
  · refine KeepsHistory.trans ?_ ((logs_mapHeader _ _).trans (logs_write _ _)).keeps
    refine keepsHistory_of_time rfl (le_steppedTime _ l x) fun hs hstopped => ?_
    rcases Bool.or_eq_true_iff.1 hstopped with hbefore | hreached
    · show steppedTime s.time.group l x = Time.limit
      rw [hs hbefore, steppedTime_limit]
    · exact beq_iff_eq.1 hreached

theorem keepsHistory_handleBeacon (m : BeaconMessage) (l : Time) (s : State) :
    KeepsHistory s (handleBeacon m l s) := by
  have hnoted : ∀ before, Logs s (noteBeacon before m (hearPeer m.sender s)) := fun before =>
    (logs_hearPeer _ s).trans (logs_noteBeacon before m _)
  have hrest : ∀ u, Logs u (markHold m (evaluateGroupBusy (beaconNumber m.highest u))) := fun u =>
    (logs_beaconNumber _ u).trans ((logs_evaluateGroupBusy _).trans (logs_markHold m _))
  exact (hnoted _).keeps.trans ((keepsHistory_stepTime _ l m.time _).trans (hrest _).keeps)

/-! ### Restarts -/

theorem closeCurrent_time (e : EndStatus) (s : State) : (closeCurrent e s).time = s.time :=
  (captureFrame_closeCurrent e s).time

theorem keepsHistory_powerRestart (sa : Address) (s : State) : KeepsHistory s (powerRestart sa s) :=
  keepsHistory_of_emptied rfl (.inr rfl)

theorem keepsHistory_blankStation (p : Power) (sa : Address) (s : State) : KeepsHistory s (blankStation p sa s) :=
  keepsHistory_of_emptied rfl (.inr rfl)

theorem keepsHistory_hardRestart (sa : Address) (s : State) : KeepsHistory s (hardRestart sa s) :=
  keepsHistory_of_emptied rfl (.inl (closeCurrent_time _ s))

theorem logs_vetoOnAfterRestart (s : State) : Logs s (vetoOnAfterRestart s) := by
  unfold vetoOnAfterRestart
  split
  · exact logs_writeOne s _
  · exact Logs.refl s

/-- A SOFT restart empties the ring before it writes VETO-ON (R9, R29, R153). -/
theorem keepsHistory_softRestart (sa : Address) (s : State) : KeepsHistory s (softRestart sa s) := by
  unfold softRestart
  refine KeepsHistory.trans ?_ ((logs_vetoOnAfterRestart _).trans (logs_enterByAddress _)).keeps
  exact keepsHistory_of_emptied rfl (.inl (closeCurrent_time _ s))

/-! ### What a command answers -/

/-- Every next state that an outcome gives is one that keeps the history of `s`. -/
def AnswersKeeping (s : State) (o : Host.Outcome State Fault Refusal) : Prop :=
  ∀ t, o = .next t → KeepsHistory s t

theorem answersKeeping_next {s t : State} (h : KeepsHistory s t) : AnswersKeeping s (.next t) := by
  rintro _ ⟨⟩
  exact h

theorem Logs.answers {s t : State} (h : Logs s t) : AnswersKeeping s (.next t) :=
  answersKeeping_next h.keeps

/-- An event that happens under a condition, and otherwise leaves the state as it is. -/
theorem answersKeeping_if {c : Prop} [Decidable c] {s t : State} (h : KeepsHistory s t) :
    AnswersKeeping s (if c then .next t else .next s) := by
  split
  · exact answersKeeping_next h
  · exact answersKeeping_next (keepsHistory_refl s)

theorem Logs.answers_if {c : Prop} [Decidable c] {s t : State} (h : Logs s t) :
    AnswersKeeping s (if c then .next t else .next s) :=
  answersKeeping_if h.keeps

theorem answersKeeping_transact {f : State → State} {s : State} (h : KeepsHistory s (f s)) :
    AnswersKeeping s (transact f s) := by
  rw [transact_eq]
  split
  · exact answersKeeping_next h
  · exact Logs.answers (Logs.of_eq rfl rfl)

theorem answersKeeping_dispatch {fieldsValid : Bool} {a : Address} {owner : State → State} {s : State}
    (h : ∀ u, KeepsHistory u (owner u)) : AnswersKeeping s (dispatch fieldsValid a owner s) := by
  have hjudged : Logs s (s.setLink s.link.judged) := Logs.of_eq rfl rfl
  unfold dispatch
  dsimp only
  split
  · split
    · exact hjudged.answers
    · split
      · exact (hjudged.trans (logs_takeOwnAddress _)).settle.answers
      · exact answersKeeping_next (hjudged.keeps.trans ((h _).trans (logs_settle _).keeps))
  · exact (Logs.refl s).answers

/-! ### Commands -/

theorem Logs.answer {s t : State} (h : Logs s t) (r : Response) : Logs s (t.answer r) :=
  h.before rfl rfl

theorem Logs.result {s t : State} (h : Logs s t) (r : Result) : Logs s (t.result r) :=
  h.before rfl rfl

theorem logs_answer (s : State) (r : Response) : Logs s (s.answer r) := (Logs.refl s).answer r

theorem logs_result (s : State) (r : Result) : Logs s (s.result r) := (Logs.refl s).result r

theorem Logs.answers_transact {f : State → State} {s : State} (h : Logs s (f s)) : AnswersKeeping s (transact f s) :=
  answersKeeping_transact h.keeps

theorem answersKeeping_linePinChange (n : Fin 16) (l : Level) (s : State) :
    AnswersKeeping s (execLinePinChange n l s) := by
  unfold execLinePinChange
  split
  · exact (Logs.refl s).answers
  · split
    · exact (logs_moveLine n l s).settle.answers
    · exact Logs.answers (Logs.of_eq rfl rfl)

theorem answersKeeping_vetoPinChange (l : Level) (s : State) : AnswersKeeping s (execVetoPinChange l s) := by
  unfold execVetoPinChange
  split
  · exact (Logs.refl s).answers
  · split
    · exact (logs_moveVeto l s).answers
    · exact Logs.answers (Logs.of_eq rfl rfl)

theorem answersKeeping_windowExpiry (k : Fin 4) (s : State) : AnswersKeeping s (execWindowExpiry k s) := by
  unfold execWindowExpiry
  split
  · split
    · exact (Logs.refl s).answers
    · exact (logs_expireWindow k _ s).settle.answers
  · exact (Logs.refl s).answers

theorem answersKeeping_attemptStart (s : State) : AnswersKeeping s (execAttemptStart s) := by
  unfold execAttemptStart
  split
  · exact (Logs.refl s).answers
  · exact Logs.answers (Logs.of_eq rfl rfl)

theorem answersKeeping_attemptFailure (e : BitError) (s : State) : AnswersKeeping s (execAttemptFailure e s) := by
  have hbroken : Logs s (s.setLink (s.link.breakOff e)) := Logs.of_eq rfl rfl
  unfold execAttemptFailure
  dsimp only
  split
  · split
    · exact (hbroken.trans (logs_enterMute _ _)).settle.answers
    · exact (hbroken.trans (logs_failAttempt _)).settle.answers
  · exact (Logs.refl s).answers

theorem answersKeeping_attemptSuccess (s : State) : AnswersKeeping s (execAttemptSuccess s) := by
  unfold execAttemptSuccess
  split
  · exact (Logs.refl s).answers
  · exact Logs.answers_if ((logs_reportSuccess _ _).after rfl rfl).settle

theorem answersKeeping_groupTimeLimit (s : State) : AnswersKeeping s (execGroupTimeLimit s) := by
  unfold execGroupTimeLimit
  split
  · rename_i h
    rw [Bool.and_eq_true, beq_iff_eq] at h
    exact answersKeeping_next (keepsHistory_of_time rfl (BitVec.le_refl _) fun _ _ => h.2)
  · exact (Logs.refl s).answers

theorem answersKeeping_powerRestart (sa : Address) (s : State) : AnswersKeeping s (execPowerRestart sa s) := by
  unfold execPowerRestart
  split
  · exact answersKeeping_next (keepsHistory_powerRestart sa s)
  · exact answersKeeping_next (keepsHistory_blankStation _ sa s)

theorem answersKeeping_resetLow (s : State) : AnswersKeeping s (execResetLow s) := by
  unfold execResetLow
  split <;> exact Logs.answers (Logs.of_eq rfl rfl)

theorem answersKeeping_hardRestart (sa : Address) (s : State) : AnswersKeeping s (execHardRestart sa s) := by
  unfold execHardRestart
  split
  · split
    · exact answersKeeping_next (keepsHistory_powerRestart sa s)
    · exact answersKeeping_next (keepsHistory_hardRestart sa s)
  · exact Logs.answers (Logs.of_eq rfl rfl)

theorem logs_applyWrite (i : Item) (x : Settings) (s : State) : Logs s (applyWrite i x s) := by
  unfold applyWrite
  dsimp only
  split
  · exact (logs_evaluateBusy _).after rfl rfl
  · exact Logs.of_eq rfl rfl

theorem answersKeeping_writeConfig (item index : Byte) (value : BitVec 56) (s : State) :
    AnswersKeeping s (execWriteConfig item index value s) := by
  apply Logs.answers_transact
  split
  · exact logs_result s _
  · split
    · exact logs_result s _
    · split
      · exact logs_result s _
      · exact (logs_applyWrite _ _ s).result _

theorem answersKeeping_readConfig (item index : Byte) (s : State) :
    AnswersKeeping s (execReadConfig item index s) := by
  apply Logs.answers_transact
  split
  · exact logs_result s _
  · exact logs_answer s _

theorem logs_closeWindow (s : State) : Logs s (closeWindow s) :=
  (logs_enterByAddress _).after rfl rfl

theorem answersKeeping_closeConfig (s : State) : AnswersKeeping s (execCloseConfig s) := by
  apply Logs.answers_transact
  split
  · exact logs_result s _
  · split
    · exact logs_answer s _
    · exact (logs_closeWindow s).result _

theorem answersKeeping_readPeer (a : Byte) (s : State) : AnswersKeeping s (execReadPeer a s) := by
  apply Logs.answers_transact
  dsimp only
  split
  · exact logs_result s _
  · split
    · exact logs_result s _
    · exact logs_answer s _

theorem answersKeeping_readHistory (s : State) : AnswersKeeping s (execReadHistory s) :=
  answersKeeping_transact (keepsHistory_of_cursor rfl s.ring.restartCursor_records Ring.Sound.restartCursor)

theorem answersKeeping_readHistoryNext (n : Byte) (s : State) : AnswersKeeping s (execReadHistoryNext n s) := by
  apply answersKeeping_transact
  split
  · exact keepsHistory_of_cursor rfl (s.ring.readNext_records n.toNat) fun h => h.readNext n.toNat
  · exact (logs_result s _).keeps

theorem logs_bring (s : State) (o : Offer) : Logs s (s.bring o) := Logs.of_eq rfl rfl

theorem logs_setStore (s : State) (x : Store) : Logs s (s.setStore x) := Logs.of_eq rfl rfl

theorem answersKeeping_selectEpisode (slot : Byte) (s : State) : AnswersKeeping s (execSelectEpisode slot s) := by
  apply Logs.answers_transact
  exact (logs_setStore s _).result _

theorem answersKeeping_readRecords (n : Byte) (s : State) : AnswersKeeping s (execReadRecords n s) := by
  apply Logs.answers_transact
  split
  · exact (logs_setStore s _).answer _
  · exact logs_result s _

theorem logs_releaseSlot (i : Fin 8) (e : Episode) (s : State) : Logs s (releaseSlot i e s) :=
  (logs_evaluateBusy _).after rfl rfl

theorem answersKeeping_releaseEpisode (slot : Byte) (s : State) : AnswersKeeping s (execReleaseEpisode slot s) := by
  apply Logs.answers_transact
  split
  · exact logs_result s _
  · split
    · exact logs_result s _
    · exact logs_result s _
    · exact ((logs_releaseSlot _ _ s).result _).settle

theorem answersKeeping_softwareTrigger (s : State) : AnswersKeeping s (execSoftwareTrigger s) := by
  have hrequest := logs_request .software s.time.group s
  apply Logs.answers_transact
  split
  · exact logs_result s _
  · rename_i heq
    rw [heq] at hrequest
    exact (hrequest.answer _).settle

theorem answersKeeping_closeEpisode (s : State) : AnswersKeeping s (execCloseEpisode s) := by
  apply Logs.answers_transact
  split
  · exact logs_result s _
  · split
    · exact ((logs_closeEpisode .cutByHost s).answer _).settle
    · exact logs_result s _

theorem answersKeeping_setLocalHold (v : Byte) (s : State) : AnswersKeeping s (execSetLocalHold v s) := by
  apply Logs.answers_transact
  split
  · exact ((logs_setLocalHold _ s).answer _).settle
  · exact logs_result s _

theorem answersKeeping_sendGroupCommand (code : Byte) (mask : Mask) (s : State) :
    AnswersKeeping s (execSendGroupCommand code mask s) := by
  apply Logs.answers_transact
  split
  · exact logs_result s _
  · split
    · exact logs_result s _
    · split
      · exact logs_result s _
      · exact Logs.result (Logs.of_eq rfl rfl) _

theorem logs_rejoinGroup (s : State) : Logs s (rejoinGroup s) :=
  (logs_enterRollCall _).after rfl rfl

theorem answersKeeping_rejoin (s : State) : AnswersKeeping s (execRejoin s) := by
  apply Logs.answers_transact
  split
  · exact (logs_rejoinGroup s).result _
  · exact logs_result s _

theorem answersKeeping_restart (sa : Address) (s : State) : AnswersKeeping s (execRestart sa s) := by
  have hended : ∀ u : State, Logs u u.endTransaction := fun _ => Logs.of_eq rfl rfl
  apply answersKeeping_transact
  split
  · exact (logs_result s _).keeps
  · exact (keepsHistory_softRestart sa s).trans (hended _).keeps

theorem answersKeeping_ackAttention (mask : Byte) (s : State) : AnswersKeeping s (execAckAttention mask s) := by
  apply Logs.answers_transact
  exact Logs.answer (Logs.of_eq rfl rfl) _

/-- Every command keeps the history. -/
theorem answersKeeping_exec (c : Instr) (s : State) : AnswersKeeping s (exec c s) := by
  cases c with
  | linePinChange n l => exact answersKeeping_linePinChange n l s
  | qualificationTimerExpiry n => exact (logs_qualifyLine n _ s).settle.answers_if
  | vetoPinChange l => exact answersKeeping_vetoPinChange l s
  | vetoQualificationExpiry => exact (logs_qualifyVeto _ s).settle.answers_if
  | windowExpiry k => exact answersKeeping_windowExpiry k s
  | postTimeExpiry => exact (logs_closeEpisode .timed s).settle.answers_if
  | holdLimitExpiry => exact (logs_expireRegister s).settle.answers_if
  | lineFree => exact Logs.answers_if (Logs.of_eq rfl rfl)
  | attemptStart => exact answersKeeping_attemptStart s
  | arbitrationLoss => exact Logs.answers_if (Logs.of_eq rfl rfl)
  | attemptFailure e => exact answersKeeping_attemptFailure e s
  | attemptSuccess => exact answersKeeping_attemptSuccess s
  | messageAbandon => exact Logs.answers_if (Logs.of_eq rfl rfl)
  | messageInvalid => exact Logs.answers_if (Logs.of_eq rfl rfl)
  | ownAddressMessage => exact Logs.answers_if ((logs_takeOwnAddress _).after rfl rfl).settle
  | triggerReceived m =>
    exact answersKeeping_dispatch fun u =>
      (((logs_hearPeer m.sender u).trans (logs_controllerTrigger m _)).trans (logs_bring _ _)).keeps
  | beaconReceived m => exact answersKeeping_dispatch (keepsHistory_handleBeacon m _)
  | clearCountersReceived a mask =>
    exact answersKeeping_dispatch fun u => ((logs_hearPeer a u).trans (logs_applyCommand _ _ _)).keeps
  | holdReceived a =>
    exact answersKeeping_dispatch fun u => ((logs_hearPeer a u).trans (logs_applyCommand _ _ _)).keeps
  | resumeReceived a =>
    exact answersKeeping_dispatch fun u => ((logs_hearPeer a u).trans (logs_applyCommand _ _ _)).keeps
  | silenceTimerExpiry a => exact (logs_losePeer a s).settle.answers_if
  | beaconTimerExpiry => exact Logs.answers_if ((logs_requestBeacon _).after rfl rfl)
  | rollCallExpiry => exact (logs_endRollCall s).settle.answers_if
  | groupTimeLimit => exact answersKeeping_groupTimeLimit s
  | powerRestart sa => exact answersKeeping_powerRestart sa s
  | supplyLoss => exact answersKeeping_next (keepsHistory_blankStation _ _ s)
  | resetLow => exact answersKeeping_resetLow s
  | hardRestart sa => exact answersKeeping_hardRestart sa s
  | status =>
    apply Logs.answers_transact
    exact logs_answer s _
  | writeConfig item index value => exact answersKeeping_writeConfig item index value s
  | readConfig item index => exact answersKeeping_readConfig item index s
  | closeConfig => exact answersKeeping_closeConfig s
  | readCounters =>
    apply Logs.answers_transact
    exact logs_answer s _
  | readPeer a => exact answersKeeping_readPeer a s
  | readHistory => exact answersKeeping_readHistory s
  | readHistoryNext n => exact answersKeeping_readHistoryNext n s
  | listEpisodes =>
    apply Logs.answers_transact
    exact logs_answer s _
  | selectEpisode slot => exact answersKeeping_selectEpisode slot s
  | readHeader =>
    apply Logs.answers_transact
    exact logs_answer s _
  | readRecords n => exact answersKeeping_readRecords n s
  | releaseEpisode slot => exact answersKeeping_releaseEpisode slot s
  | softwareTrigger => exact answersKeeping_softwareTrigger s
  | closeEpisode => exact answersKeeping_closeEpisode s
  | setLocalHold v => exact answersKeeping_setLocalHold v s
  | sendGroupCommand code mask => exact answersKeeping_sendGroupCommand code mask s
  | rejoin => exact answersKeeping_rejoin s
  | restart sa => exact answersKeeping_restart sa s
  | ackAttention mask => exact answersKeeping_ackAttention mask s
  | startBitReceived => exact Logs.answers_if (Logs.of_eq rfl rfl)
  | shortTransaction =>
    apply Logs.answers_transact
    exact logs_result s _
  | unknownCommand =>
    apply Logs.answers_transact
    exact logs_result s _

/-- Every step keeps the history: the tick of the clock, and the command at the front of the queue. -/
theorem keepsHistory_step {s t : State} (h : step s = .next t) : KeepsHistory s t := by
  unfold step at h
  split at h
  · cases h
    exact keepsHistory_tick s
  · rename_i c rest _
    have hpopped : Logs s (s.setPending rest) := Logs.of_eq rfl rfl
    exact hpopped.keeps.trans (answersKeeping_exec c _ t h)

/-- Settles O6: an event logs records, moves the host's cursor, empties the ring, or raises group time, and each keeps
the ring sound and its times in order. -/
theorem ringAndTimeKept : Obligations.RingAndTimeKept :=
  ⟨fun _ _ hs hstep => (keepsHistory_step hstep).ring hs, fun _ _ hs hstep => (keepsHistory_step hstep).times hs⟩

end Sys2Proof.Machine
end

section
/-! PROOFS. What an offer gives a condition: when it occurs, and the compare result held after it (R35, R36, R38, R39). -/

namespace Sys2Proof.Machine

open Sys2Proof.Machine.Claims

/-- The compare of a COUNTER condition is the relation in the table of R36. -/
theorem Compare.holds_eq_related (k : Compare) (v limit : Word32) : k.holds v limit = related k v limit := by
  cases k with
  | eq => exact beq_eq_decide v limit
  | ne => simp [Compare.holds, related, bne, beq_eq_decide]
  | lt => rfl
  | gt => rfl

/-- The directions that a LINE condition takes (R35). -/
theorem EdgeSelect.takes_iff (e : EdgeSelect) (d : Dir) :
    e.takes d = true ↔ e = .either ∨ (e = .rise ∧ d = .rise) ∨ (e = .fall ∧ d = .fall) := by
  cases e <;> cases d <;> simp [EdgeSelect.takes]

/-- The new value that the model reads from an offer is the one the offer carries (R34). -/
theorem Offer.newValue_eq_some_iff (o : Offer) (c : Fin 16) (v : Word32) : o.newValue c = some v ↔ Carries o c v := by
  cases o with
  | edge n d x => simp [Offer.newValue, Carries]
  | cleared changed => simp [Offer.newValue, Carries, eq_comm (a := 0#32)]
  | trigger sender => simp [Offer.newValue, Carries]

theorem Offer.newValue_eq_none_iff (o : Offer) (c : Fin 16) : o.newValue c = none ↔ ∀ v, ¬ Carries o c v := by
  simp only [← Offer.newValue_eq_some_iff, Option.eq_none_iff_forall_ne_some, ne_eq]

/-- A LINE condition occurs in an edge of its line in a direction it takes (R35). -/
theorem Condition.line_occurs_iff (n : Fin 16) (e : EdgeSelect) (held : Option Bool) (o : Offer) :
    (Condition.line n e).occurs held o = true ↔ ∃ d v, o = .edge n d v ∧
      (e = .either ∨ (e = .rise ∧ d = .rise) ∨ (e = .fall ∧ d = .fall)) := by
  simp only [← EdgeSelect.takes_iff]
  cases o with
  | edge m d v =>
    simp only [Condition.occurs, Bool.and_eq_true, decide_eq_true_eq, Offer.edge.injEq]
    constructor
    · rintro ⟨rfl, hd⟩
      exact ⟨d, v, ⟨rfl, rfl, rfl⟩, hd⟩
    · rintro ⟨_, _, ⟨rfl, rfl, rfl⟩, hd⟩
      exact ⟨rfl, hd⟩
  | cleared changed => simp [Condition.occurs]
  | trigger sender => simp [Condition.occurs]

/-- A COUNTER condition occurs where the compare result turns from FALSE to TRUE (R36). -/
theorem Condition.counter_occurs_iff (c : Fin 16) (k : Compare) (limit : Word32) (held : Option Bool) (o : Offer) :
    (Condition.counter c k limit).occurs held o = true ↔
      held = some false ∧ ∃ v, Carries o c v ∧ related k v limit = true := by
  simp only [Condition.occurs, ← Offer.newValue_eq_some_iff, Compare.holds_eq_related]
  cases o.newValue c with
  | none => simp
  | some v => simp

/-- The compare of an offer's new value is held after it (R36). -/
theorem Condition.counter_heldAfter_of_carries {c : Fin 16} {o : Offer} {v : Word32} (h : Carries o c v) (k : Compare)
    (limit : Word32) (held : Option Bool) :
    (Condition.counter c k limit).heldAfter held o = some (related k v limit) := by
  simp only [Condition.heldAfter, (Offer.newValue_eq_some_iff o c v).2 h, Compare.holds_eq_related]

/-- An offer without a new value of the counter leaves the compare result (R36). -/
theorem Condition.counter_heldAfter_of_not_carries {c : Fin 16} {o : Offer} (h : ∀ v, ¬ Carries o c v) (k : Compare)
    (limit : Word32) (held : Option Bool) : (Condition.counter c k limit).heldAfter held o = held := by
  simp only [Condition.heldAfter, (Offer.newValue_eq_none_iff o c).2 h]

/-- A REMOTE condition occurs in a received TRIGGER of its station, or of any for station 0 (R38). -/
theorem Condition.remote_occurs_iff (a : Address) (held : Option Bool) (o : Offer) :
    (Condition.remote a).occurs held o = true ↔ ∃ sender, o = .trigger sender ∧ (a = 0#5 ∨ a = sender) := by
  cases o with
  | edge n d v => simp [Condition.occurs]
  | cleared changed => simp [Condition.occurs]
  | trigger sender => simp [Condition.occurs]

end Sys2Proof.Machine
end

section
/-! PROOFS. The combinators on one offer (R40 to R43): an equation for each row of their tables. -/

namespace Sys2Proof.Machine

/-! ### An offer at an armed unit -/

/-- The unit with the compare results held after an offer, before its combinator (R36). -/
def ArmedUnit.compares (x : UnitSettings) (o : Offer) (u : ArmedUnit) : ArmedUnit :=
  { u with compareA := x.condA.heldAfter u.compareA o, compareB := x.condB.heldAfter u.compareB o }

/-- An offer is put to the conditions first, and what occurs to the combinator (R34, R40 to R43). -/
theorem ArmedUnit.take_eq {x : UnitSettings} {c : Combinator} (h : x.combinator = c) (now : Nat) (o : Offer)
    (u : ArmedUnit) :
    u.take x now o =
      combine c now x.window (x.condA.occurs u.compareA o) (x.condB.occurs u.compareB o) (u.compares x o) :=
  h ▸ rfl

/-! ### BOTH (R41) -/

theorem withinWindow_of_within {now w m : Nat} {last : Option Nat} (h : last = some m) (hw : now - m ≤ w) :
    withinWindow now w last = true := by
  simp [withinWindow, h, hw]

theorem withinWindow_of_beyond {now w : Nat} {last : Option Nat} (h : ∀ m, last = some m → w < now - m) :
    withinWindow now w last = false := by
  cases last with
  | none => rfl
  | some m => exact decide_eq_false (Nat.not_le_of_lt (h m rfl))

/-- A with B at most W before it satisfies, and the remembered times go. -/
theorem combineBoth_of_a_within {now w m : Nat} {u : ArmedUnit} (h : u.lastB = some m) (hw : now - m ≤ w) :
    combineBoth now w true false u = ({ u with lastA := none, lastB := none }, true) :=
  if_pos (withinWindow_of_within h hw)

/-- A with no B at most W before it is remembered. -/
theorem combineBoth_of_a_beyond {now w : Nat} {u : ArmedUnit} (h : ∀ m, u.lastB = some m → w < now - m) :
    combineBoth now w true false u = ({ u with lastA := some now }, false) :=
  if_neg (ne_true_of_eq_false (withinWindow_of_beyond h))

/-- B with A at most W before it satisfies, and the remembered times go. -/
theorem combineBoth_of_b_within {now w m : Nat} {u : ArmedUnit} (h : u.lastA = some m) (hw : now - m ≤ w) :
    combineBoth now w false true u = ({ u with lastA := none, lastB := none }, true) :=
  if_pos (withinWindow_of_within h hw)

/-- B with no A at most W before it is remembered. -/
theorem combineBoth_of_b_beyond {now w : Nat} {u : ArmedUnit} (h : ∀ m, u.lastA = some m → w < now - m) :
    combineBoth now w false true u = ({ u with lastB := some now }, false) :=
  if_neg (ne_true_of_eq_false (withinWindow_of_beyond h))

/-- BOTH reads and writes the remembered times alone. -/
theorem combineBoth_keeps (now w : Nat) (a b : Bool) (u : ArmedUnit) :
    (combineBoth now w a b u).1 = { u with
      lastA := (combineBoth now w a b u).1.lastA, lastB := (combineBoth now w a b u).1.lastB } := by
  cases a <;> cases b
  · rfl
  · simp only [combineBoth]; split <;> rfl
  · simp only [combineBoth]; split <;> rfl
  · rfl

/-! ### SEQUENCE and A-UNLESS-B (R42, R43) -/

theorem combineSequence_of_waitA {u : ArmedUnit} (h : u.phase = .waitA) (now : Nat) (a b : Bool) :
    combineSequence now a b u = if a then ({ u with phase := .waitB now }, false) else (u, false) := by
  simp only [combineSequence, h]

theorem combineSequence_of_waitB {u : ArmedUnit} {m : Nat} (h : u.phase = .waitB m) (now : Nat) (a b : Bool) :
    combineSequence now a b u =
      if b then ({ u with phase := .waitA }, true)
      else if a then ({ u with phase := .waitB now }, false) else (u, false) := by
  simp only [combineSequence, h]

theorem combineUnless_of_waitA {u : ArmedUnit} (h : u.phase = .waitA) (now : Nat) (a b : Bool) :
    combineUnless now a b u = if a then ({ u with phase := .waitB now }, false) else (u, false) := by
  simp only [combineUnless, h]

theorem combineUnless_of_waitB {u : ArmedUnit} {m : Nat} (h : u.phase = .waitB m) (now : Nat) (a b : Bool) :
    combineUnless now a b u = if b then ({ u with phase := .waitA }, false) else (u, false) := by
  simp only [combineUnless, h]

/-- SEQUENCE changes the phase alone. -/
theorem combineSequence_keeps (now : Nat) (a b : Bool) (u : ArmedUnit) :
    (combineSequence now a b u).1 = { u with phase := (combineSequence now a b u).1.phase } := by
  cases h : u.phase with
  | waitA => rw [combineSequence_of_waitA h]; cases a <;> rfl
  | waitB m => rw [combineSequence_of_waitB h]; cases b <;> cases a <;> rfl

/-- A-UNLESS-B changes the phase alone. -/
theorem combineUnless_keeps (now : Nat) (a b : Bool) (u : ArmedUnit) :
    (combineUnless now a b u).1 = { u with phase := (combineUnless now a b u).1.phase } := by
  cases h : u.phase with
  | waitA => rw [combineUnless_of_waitA h]; cases a <;> rfl
  | waitB m => rw [combineUnless_of_waitB h]; cases b <;> rfl

/-- No offer satisfies A-UNLESS-B: its satisfaction falls at the expiry of its window (R43). -/
theorem combineUnless_unsatisfied (now : Nat) (a b : Bool) (u : ArmedUnit) : (combineUnless now a b u).2 = false := by
  cases h : u.phase with
  | waitA => rw [combineUnless_of_waitA h]; cases a <;> rfl
  | waitB m => rw [combineUnless_of_waitB h]; cases b <;> rfl

/-! ### What every combinator keeps -/

/-- A combinator changes phase and remembered times alone: compare results and remaining count stay. -/
theorem combine_keeps (c : Combinator) (now w : Nat) (a b : Bool) (u : ArmedUnit) :
    (combine c now w a b u).1 = { u with
      phase := (combine c now w a b u).1.phase
      lastA := (combine c now w a b u).1.lastA, lastB := (combine c now w a b u).1.lastB } := by
  cases c with
  | any => rfl
  | both => simp only [combine]; rw [combineBoth_keeps]
  | sequence => simp only [combine]; rw [combineSequence_keeps]
  | aUnlessB => simp only [combine]; rw [combineUnless_keeps]

theorem ArmedUnit.take_compareA (x : UnitSettings) (now : Nat) (o : Offer) (u : ArmedUnit) :
    (u.take x now o).1.compareA = x.condA.heldAfter u.compareA o := by
  rw [ArmedUnit.take_eq rfl, combine_keeps]; rfl

theorem ArmedUnit.take_compareB (x : UnitSettings) (now : Nat) (o : Offer) (u : ArmedUnit) :
    (u.take x now o).1.compareB = x.condB.heldAfter u.compareB o := by
  rw [ArmedUnit.take_eq rfl, combine_keeps]; rfl

/-- Taking an offer leaves the remaining count; counting the satisfaction comes after it (R45). -/
theorem ArmedUnit.take_remaining (x : UnitSettings) (now : Nat) (o : Offer) (u : ArmedUnit) :
    (u.take x now o).1.remaining = u.remaining := by
  rw [ArmedUnit.take_eq rfl, combine_keeps]; rfl

end Sys2Proof.Machine
end

section
/-! PROOFS. ANY and BOTH on an offer (R40, R41). -/

namespace Sys2Proof.Machine

open Sys2Proof.Machine.Claims

/-- An empty condition adds no occurrence, so B counts only where it is not NONE (R39, R40). -/
theorem Condition.occurs_eq_ne_empty_and_occurs (c : Condition) (held : Option Bool) (o : Offer) :
    c.occurs held o = (c != .empty && c.occurs held o) := by
  by_cases h : c = .empty
  · subst h; rfl
  · simp [h]

/-- Settles O32: each kind of condition by its offers, and each row of the table of R41 by its equation. -/
theorem anyAndBothOnOffers : Obligations.AnyAndBothOnOffers := by
  refine ⟨fun held o => ⟨⟨rfl, rfl⟩, fun n e => ⟨Condition.line_occurs_iff n e held o, rfl⟩, fun c k limit => ?_,
      fun a => ⟨Condition.remote_occurs_iff a held o, rfl⟩⟩,
    fun x now o u => ⟨u.take_compareA x now o, u.take_compareB x now o⟩, fun x now o u hc => ?_,
    fun x t o u hc => ?_⟩
  · exact ⟨Condition.counter_occurs_iff c k limit held o,
      fun v hv => Condition.counter_heldAfter_of_carries hv k limit held,
      fun hv => Condition.counter_heldAfter_of_not_carries hv k limit held⟩
  · rw [ArmedUnit.take_eq hc, ← Condition.occurs_eq_ne_empty_and_occurs]
    exact ⟨rfl, rfl, rfl, rfl, rfl⟩
  · simp only [ArmedUnit.take_eq hc, combine]
    generalize x.condA.occurs u.compareA o = a
    generalize x.condB.occurs u.compareB o = b
    refine ⟨?_, ?_, ?_, ?_, ?_, ?_, ?_, ?_⟩
    · rw [combineBoth_keeps]; rfl
    · rw [combineBoth_keeps]; rfl
    · rintro rfl rfl
      exact ⟨rfl, rfl, rfl⟩
    · rintro m rfl rfl hm hw
      rw [combineBoth_of_a_within (u := u.compares x o) hm hw]
      exact ⟨rfl, rfl, rfl⟩
    · rintro rfl rfl hm
      rw [combineBoth_of_a_beyond (u := u.compares x o) hm]
      exact ⟨rfl, rfl, rfl⟩
    · rintro m rfl rfl hm hw
      rw [combineBoth_of_b_within (u := u.compares x o) hm hw]
      exact ⟨rfl, rfl, rfl⟩
    · rintro rfl rfl hm
      rw [combineBoth_of_b_beyond (u := u.compares x o) hm]
      exact ⟨rfl, rfl, rfl⟩
    · rintro rfl rfl
      exact ⟨rfl, rfl, rfl⟩

end Sys2Proof.Machine
end

section
/-! PROOFS. Counting and firing (R45, R46): what a satisfaction, or none, makes of the station. -/

namespace Sys2Proof.Machine

open Sys2Proof.Machine.Claims

/-- A firing now meets a hold in a station state that takes requests, with no episode open: its request is suppressed,
and nothing opens (case 1 of R97). -/
def FiresIntoHold (s : State) : Prop :=
  (s.ctrl.localHold = true ∨ s.ctrl.groupHold = true) ∧ s.ctrl.current = none ∧
    (s.station.mode = .active ∨ s.station.mode.isMute = true)

theorem FiresIntoHold.held {s : State} (h : FiresIntoHold s) : s.held = true := by
  obtain ⟨hold, -, -⟩ := h
  simpa [State.held] using hold

/-- A request under a hold is suppressed (case 1 of R97). -/
theorem request_of_hold {s : State} (h : FiresIntoHold s) (c : OwnCause) (t : Time) :
    (request c t s).1 = suppressed .hold [c] s := by
  have hmode : ¬ (s.station.mode = .config ∨ s.station.mode = .rollCall) := by
    obtain ⟨-, -, hm | hm⟩ := h
    · simp [hm]
    · rintro (hm' | hm') <;> simp [hm', Mode.isMute] at hm
  have ⟨_, hc, _⟩ := h
  simp only [request, if_neg hmode, h.held, if_true]
  exact suppress_of_no_episode .hold [c] s (List.cons_ne_nil _ _) hc

/-- A unit whose combinator is not satisfied takes its new state, and nothing else changes. -/
theorem settleUnit_of_unsatisfied {r : ArmedUnit × Bool} (h : r.2 = false) (k : Fin 4) (s : State) :
    settleUnit k r s = { s with units := s.units.set k (.armed r.1) } := by
  simp only [settleUnit, h]; rfl

/-- A satisfaction above the last one lowers the remaining count (R45). -/
theorem settleUnit_of_satisfied {r : ArmedUnit × Bool} (h : r.2 = true) (hn : 1 < r.1.remaining) (k : Fin 4)
    (s : State) :
    settleUnit k r s =
      { s with units := s.units.set k (.armed { r.1 with remaining := r.1.remaining - 1 }) } := by
  simp only [settleUnit, h, ArmedUnit.count, if_neg (Nat.not_le_of_lt hn)]; rfl

/-- The last satisfaction reloads the count and fires the unit: its FIRE record, and its request, which the hold
suppresses (R45, R46). -/
theorem settleUnit_of_last {r : ArmedUnit × Bool} {s : State} (h : r.2 = true) (hn : r.1.remaining ≤ 1)
    (hs : FiresIntoHold s) (k : Fin 4) : settleUnit k r s = firedUnderHold k r.1 s := by
  have ⟨_, hc, _⟩ := hs
  have hfire : settleUnit k r s =
      fire k (s.setUnit k (.armed { r.1 with remaining := s.config.items.units[k].count })) := by
    simp only [settleUnit, h, ArmedUnit.count, if_pos hn]; rfl
  rw [hfire, fire]
  dsimp only
  rw [write_of_no_episode _ (s.setUnit k _) hc, request_of_hold]
  · rfl
  · exact hs

theorem unitTakes_of_armed {k : Fin 4} {u : ArmedUnit} {s : State} (h : s.units[k] = .armed u) (o : Offer) :
    unitTakes o s k = settleUnit k (u.take s.config.items.units[k] s.now o) s := by
  simp only [unitTakes, h]

end Sys2Proof.Machine
end

section
/-! PROOFS. SEQUENCE and A-UNLESS-B on an offer, and the expiry of their window (R42, R43). -/

namespace Sys2Proof.Machine

open Sys2Proof.Machine.Claims

/-- The window timer of an armed unit in WAIT-B that has reached W expires (R42, R43). -/
theorem exec_windowExpiry {k : Fin 4} {u : ArmedUnit} {since : Nat} {s : State} (hr : s.running = true)
    (hu : s.units[k] = .armed u) (hp : u.phase = .waitB since)
    (hw : s.config.items.units[k].window ≤ s.now - since) :
    exec (.windowExpiry k) s = .next (settle (expireWindow k u s)) := by
  have hdue : s.windowDue k = true := by
    simp only [State.windowDue, hu, ArmedUnit.windowDue, hp]
    exact decide_eq_true hw
  show execWindowExpiry k s = _
  simp only [execWindowExpiry, hr, hdue, Bool.and_self, if_true, hu]

/-- Under SEQUENCE an expiry brings the unit back to WAIT-A without a satisfaction (R42). -/
theorem expireWindow_of_sequence {k : Fin 4} {s : State} (h : s.config.items.units[k].combinator = .sequence)
    (u : ArmedUnit) : expireWindow k u s = settleUnit k ({ u with phase := .waitA }, false) s := by
  simp only [expireWindow, h]

/-- Under A-UNLESS-B an expiry brings the unit back to WAIT-A with a satisfaction (R43). -/
theorem expireWindow_of_aUnlessB {k : Fin 4} {s : State} (h : s.config.items.units[k].combinator = .aUnlessB)
    (u : ArmedUnit) : expireWindow k u s = settleUnit k ({ u with phase := .waitA }, true) s := by
  simp only [expireWindow, h]

/-- Settles O33: each row of the tables by its equation, and the expiry by what a satisfaction, or none, makes of the
station; nothing of it brings an offer. -/
theorem sequenceAndUnlessByWindow : Obligations.SequenceAndUnlessByWindow := by
  refine ⟨fun x t o u => ⟨fun hc => ?_, fun hc => ?_⟩,
    fun k u since s ⟨hr, hs⟩ hu hp hw => ⟨fun hc => ?_, fun hc hn => ?_, fun hc hn hold ho hm => ?_⟩⟩
  · simp only [ArmedUnit.take_eq hc, combine]
    generalize x.condA.occurs u.compareA o = a
    generalize x.condB.occurs u.compareB o = b
    refine ⟨?_, ?_, ?_, ?_, ?_⟩
    · rintro hp rfl
      rw [combineSequence_of_waitA (u := u.compares x o) hp]
      exact ⟨rfl, rfl⟩
    · rintro hp rfl
      rw [combineSequence_of_waitA (u := u.compares x o) hp]
      exact ⟨rfl, hp⟩
    · rintro m hp rfl
      rw [combineSequence_of_waitB (u := u.compares x o) hp]
      exact ⟨rfl, rfl⟩
    · rintro m hp rfl rfl
      rw [combineSequence_of_waitB (u := u.compares x o) hp]
      exact ⟨rfl, rfl⟩
    · rintro m hp rfl rfl
      rw [combineSequence_of_waitB (u := u.compares x o) hp]
      exact ⟨rfl, hp⟩
  · simp only [ArmedUnit.take_eq hc, combine]
    generalize x.condA.occurs u.compareA o = a
    generalize x.condB.occurs u.compareB o = b
    refine ⟨combineUnless_unsatisfied _ _ _ _, ?_, ?_, ?_, ?_⟩
    · rintro hp rfl
      rw [combineUnless_of_waitA (u := u.compares x o) hp]
      rfl
    · rintro hp rfl
      rw [combineUnless_of_waitA (u := u.compares x o) hp]
      exact hp
    · rintro m hp rfl
      rw [combineUnless_of_waitB (u := u.compares x o) hp]
      rfl
    · rintro m hp rfl
      rw [combineUnless_of_waitB (u := u.compares x o) hp]
      exact hp
  · rw [exec_windowExpiry hr hu hp hw, expireWindow_of_sequence hc, settleUnit_of_unsatisfied rfl,
      settle_of_no_offers]
    exact hs
  · rw [exec_windowExpiry hr hu hp hw, expireWindow_of_aUnlessB hc, settleUnit_of_satisfied rfl hn,
      settle_of_no_offers]
    exact hs
  · rw [exec_windowExpiry hr hu hp hw, expireWindow_of_aUnlessB hc,
      settleUnit_of_last rfl (Nat.le_of_eq hn) ⟨hold, ho, hm⟩, settle_of_no_offers]
    exact hs

end Sys2Proof.Machine
end

section
/-! PROOFS. Offers reach the armed unit after the rest of their event (R3, R11, R34, R48). -/

namespace Sys2Proof.Machine

open Sys2Proof.Machine.Claims

/-! ### One armed unit takes the one offer of an event -/

theorem firesIntoHold_of_armedAlone {k : Fin 4} {u : ArmedUnit} {s : State} (h : ArmedAlone k u s) :
    FiresIntoHold s := by
  obtain ⟨-, -, -, hold, hc, hm⟩ := h
  exact ⟨hold, hc, hm⟩

theorem filter_finRange_eq (k : Fin 4) : (List.finRange 4).filter (fun j => decide (j = k)) = [k] := by
  revert k
  decide

theorem armedUnits_of_armedAlone {k : Fin 4} {u : ArmedUnit} {s : State} (h : ArmedAlone k u s) :
    s.armedUnits = [k] := by
  obtain ⟨-, hu, hothers, -⟩ := h
  have harmed : ∀ j : Fin 4, s.units[j].isArmed = decide (j = k) := by
    intro j
    by_cases hj : j = k
    · subst hj; simp [hu, TriggerUnit.isArmed]
    · simp [hothers j hj, TriggerUnit.isArmed, hj]
  simp only [State.armedUnits, harmed, filter_finRange_eq]

/-- One armed unit takes an offer in the one order there is, and no choice is made (R49, log 3). -/
theorem takeOffer_of_armedAlone {k : Fin 4} {u : ArmedUnit} {s : State} (h : ArmedAlone k u s) (o : Offer) :
    takeOffer o s = unitTakes o s k := by
  unfold takeOffer
  rw [armedUnits_of_armedAlone h]
  rfl

/-- Under a hold no firing opens an episode, and so none brings an offer (R48, R97). -/
theorem unitTakes_offers_of_hold {s : State} (h : FiresIntoHold s) (o : Offer) (k : Fin 4) :
    (unitTakes o s k).offers = s.offers := by
  cases hu : s.units[k] with
  | disabled => simp only [unitTakes, hu]
  | armed u =>
    rw [unitTakes_of_armed hu]
    cases hr : (u.take s.config.items.units[k] s.now o).2 with
    | false => rw [settleUnit_of_unsatisfied hr]
    | true =>
      by_cases hn : 1 < (u.take s.config.items.units[k] s.now o).1.remaining
      · rw [settleUnit_of_satisfied hr hn]
      · rw [settleUnit_of_last hr (Nat.le_of_not_lt hn) h]; rfl

/-- An event that brings one offer ends with the armed unit's taking it, in the state that the rest of the event left
(R34, log 11). -/
theorem settle_offer_of_armedAlone {k : Fin 4} {u : ArmedUnit} {s : State} (h : ArmedAlone k u s) (o : Offer) :
    settle (s.bring o) = unitTakes o s k := by
  have ⟨⟨_, hs⟩, _⟩ := h
  have hoffers : (unitTakes o s k).offers = [] :=
    (unitTakes_offers_of_hold (firesIntoHold_of_armedAlone h) o k).trans hs
  have hbring : (s.bring o).offers = [o] := by rw [State.bring, hs]; rfl
  have hpop : (s.bring o).setOffers [] = s := by rw [← hs]; rfl
  calc settle (s.bring o) = takeOffers 1 (takeOffer o ((s.bring o).setOffers [])) := by
        simp only [settle, hbring, takeOffers, List.length_singleton]
    _ = takeOffers 1 (unitTakes o s k) := by rw [hpop, takeOffer_of_armedAlone h]
    _ = unitTakes o s k := by simp only [takeOffers, hoffers]

/-! ### The events that bring an offer -/

/-- The model's offer of an edge carries the counter's value after it, where the edge counts (R3, R34). -/
theorem edgeOffer_eq (n : Fin 16) (l : Level) (s : State) :
    edgeOffer n l s = .edge n (Level.dir l)
      (if s.countsEdge n (Level.dir l) then some (s.counterAfter n (Level.dir l)) else none) := by
  show Offer.edge n (Level.dir l)
    (if s.config.items.countingEdge[n] = Level.dir l then some (s.counters[n] + 1#32) else none) = _
  simp only [State.countsEdge, State.counterAfter, beq_iff_eq]
  split <;> rfl

/-- A qualified edge that is not vetoed is counted and recorded, and then offered (R3). -/
theorem settle_qualifyLine_of_armedAlone {n : Fin 16} {k : Fin 4} {u : ArmedUnit} {s : State} (h : ArmedAlone k u s)
    (hv : ¬ Vetoed n s) (l : Level) :
    settle (qualifyLine n l s) = unitTakes (edgeOffer n l s) (edgeTaken n l s) k := by
  have ⟨_, _, _, _, hc, _⟩ := h
  have hbring : qualifyLine n l s = (edgeTaken n l s).bring (edgeOffer n l s) := by
    rw [qualifyLine_of_not_vetoed l hv, write_of_no_episode _ (edgeCounted n l s) hc, edgeTaken_eq,
      edgeOffer_eq]
    rfl
  rw [hbring]
  exact settle_offer_of_armedAlone (s := edgeTaken n l s) h _

/-- A clear that changes a counter sets the counters of its mask to 0, and then offers those it changed (R11, R12). -/
theorem settle_clearCounters_of_armedAlone {k : Fin 4} {u : ArmedUnit} {s : State} (h : ArmedAlone k u s) {mask : Mask}
    (hm : changedCounters mask s ≠ []) :
    settle (clearCounters mask s) = unitTakes (.cleared (changedCounters mask s)) (cleared mask s) k := by
  rw [clearCounters_of_changed mask s hm]
  exact settle_offer_of_armedAlone (s := cleared mask s) h _

/-- A TRIGGER under a hold is not captured, whatever its number (case 1 of R104). -/
theorem triggerCase_of_held {s : State} (h : s.held = true) (x : Word32) : triggerCase x s = .notCaptured := by
  simp [triggerCase, h]

theorem raiseHighest_eq (x : Word32) (s : State) :
    raiseHighest x s =
      s.setCtrl { s.ctrl with highest := if s.ctrl.highest < x then x else s.ctrl.highest } := by
  unfold raiseHighest
  split <;> rfl

/-- With no episode open, numbers skipped leave the gap mark and a GAP record, and no number skipped leaves nothing
(R94). -/
theorem writeGap_of_no_episode {s : State} (h : s.ctrl.current = none) (count : Nat) :
    writeGap count s =
      { s with
        ctrl := { s.ctrl with gapMark := s.ctrl.gapMark || decide (count ≠ 0) }
        ring := logged s.time.group
          (if count = 0 then [] else [.gap (BitVec.ofNat 32 (min count 4294967294))]) s.ring } := by
  by_cases hz : count = 0
  · simp [writeGap, hz, logged]
  · rw [writeGap, if_neg hz, writeOne_of_no_episode (s.setCtrl { s.ctrl with gapMark := true }) _ h, if_neg hz,
      decide_eq_true (p := count ≠ 0) hz, Bool.or_true]
    rfl

/-- A TRIGGER under a hold raises the highest number and writes its GAP and REMOTE-TRIGGER records, and nothing else
(R94, R103, case 1 of R104). -/
theorem controllerTrigger_of_hold {s : State} (h : FiresIntoHold s) (m : TriggerMessage) :
    controllerTrigger m s = numbered m (some .notCaptured) s := by
  have ⟨_, hc, _⟩ := h
  have hhandle : handleTrigger (triggerCase m.number s) m s = numbered m (some .notCaptured) s := by
    rw [triggerCase_of_held h.held]
    show writeOne (writeGap (skipped s.ctrl.highest m.number) (raiseHighest m.number s))
      (.remoteTrigger m.sender m.number (some .notCaptured)) = _
    rw [raiseHighest_eq, writeGap_of_no_episode, writeOne_of_no_episode]
    · simp only [numbered, logged, List.foldl_append]
      rfl
    · exact hc
    · exact hc
  rw [controllerTrigger, hhandle]
  exact examineAfter_of_calm _ _ hc rfl

/-- The station once its own GROUP COMMAND has been sent, before its owner is told (steps 1 and 2 of R62). -/
def commandSent (s : State) : State :=
  { s with link := { s.link with
      attempt := none, latch := none, failures := 0
      list := { s.link.list with commands := s.link.list.commands.tail } } }

/-- The success of the station's own CLEAR COUNTERS takes it off the transmit list and applies it (R12, R62). -/
theorem exec_attemptSuccess_clear {m : CommandMessage} {w : Bool} {s : State} (hr : s.running = true)
    (ha : s.link.attempt = some { message := .command m, withdrawn := w }) (hm : m.command = .clearCounters) :
    exec .attemptSuccess s = .next (settle (clearCounters m.argument (commandSent s))) := by
  show execAttemptSuccess s = _
  simp only [execAttemptSuccess, ha, hr, if_true, reportSuccess, hm]
  rfl

/-- The TRIGGER of a peer under a hold is numbered and recorded, and then offered (R34, R70, R103). -/
theorem exec_triggerReceived_of_hold {m : TriggerMessage} {s : State} (hrec : Receives s m.sender)
    (hs : FiresIntoHold s) (hm : m.number ≠ 0#32) :
    exec (.triggerReceived m) s = .next (settle
      ((numbered m (some .notCaptured) (heard m.sender s)).bring (.trigger m.sender))) := by
  obtain ⟨hout, hlost⟩ := hrec
  show execTriggerReceived m s = _
  rw [execTriggerReceived, bne_iff_ne.2 hm, dispatch_of_hearsOut hout, hearPeer_judged hlost, controllerTrigger_of_hold]
  exact hs

/-! ### The statement -/

/-- Settles O34: a unit counts by its satisfactions, and each event ends with the armed unit's taking its offer in the
state that the rest of the event left. -/
theorem satisfactionsCountDownToFiring : Obligations.SatisfactionsCountDownToFiring := by
  refine ⟨fun o k u s hu => ?_, fun k u s h => ?_⟩
  · intro r
    have hn : r.1.remaining = u.remaining := u.take_remaining _ _ o
    rw [unitTakes_of_armed hu, ← hn]
    exact ⟨fun hr => settleUnit_of_unsatisfied hr k s, fun hr hmore => settleUnit_of_satisfied hr hmore k s,
      fun hr hlast hold hc hm => settleUnit_of_last hr (Nat.le_of_eq hlast) ⟨hold, hc, hm⟩ k⟩
  · have ⟨⟨hrun, _⟩, _⟩ := h
    refine ⟨fun n hv => ⟨fun since inForce hp hd => ?_, fun l hl hp hlev hq => ?_⟩, fun a mask hrec hm => ?_,
      fun m w ha hc hm => ?_, fun m hrec hm => ?_⟩
    · rw [exec_qualificationTimerExpiry hrun hp hd, settle_qualifyLine_of_armedAlone h hv]
    · rw [exec_linePinChange hrun hl, moveLine_at_once hp hlev hq, settle_qualifyLine_of_armedAlone h hv]
    · exact (dispatch_applyCommand hrec .clearCounters mask).trans
        (congrArg _ (settle_clearCounters_of_armedAlone (s := heard a s) h hm))
    · rw [exec_attemptSuccess_clear hrun ha hc]
      exact congrArg _ (settle_clearCounters_of_armedAlone (s := commandSent s) h hm)
    · rw [exec_triggerReceived_of_hold hrec (firesIntoHold_of_armedAlone h) hm]
      exact congrArg _ (settle_offer_of_armedAlone (s := numbered m _ (heard m.sender s)) h _)

end Sys2Proof.Machine
end

section
/-! PROOFS. The free line, start bits and the start of an attempt (R53, R59, R61, R66, R67). -/

namespace Sys2Proof.Machine

open Sys2Proof.Machine.Claims

/-! ### LINE_FREE and START_BIT_RECEIVED (R53, R66) -/

/-- The line is awaited after a message, after an abandoned one, or since following began (R53, R66). -/
theorem Link.awaitsFree_iff (l : Link) :
    l.awaitsFree = true ↔ l.attempt = none ∧ (l.rx = .waitFree ∨ (l.rx = .receiving ∧ l.latch = none)) := by
  simp [Link.awaitsFree]

theorem exec_lineFree {s : State} (hr : s.running = true) (h : s.link.awaitsFree = true) :
    exec .lineFree s = .next (s.setLink { s.link with rx := .idle }) :=
  if_pos (by rw [hr, h]; rfl)

theorem exec_startBitReceived_of_idle {s : State} (hr : s.running = true) (h : s.link.rx = .idle) :
    exec .startBitReceived s = .next (s.setLink (s.link.startBit s.time.group)) :=
  if_pos (by rw [hr, h]; rfl)

/-- A dominant bit is a start bit on the free line alone (R66). -/
theorem exec_startBitReceived_of_not_idle {s : State} (h : s.link.rx ≠ .idle) :
    exec .startBitReceived s = .next s :=
  if_neg (by simp [h])

/-! ### The assembly bit by bit (R66, R67) -/

namespace LineReader

theorem read_of_waitFree {r : LineReader} (h : r.rx = .waitFree) (b : Bool) : r.read b = r.count b := by
  simp [read, h]

theorem read_of_idle {r : LineReader} (h : r.rx = .idle) (b : Bool) :
    r.read b = if b then (r, []) else ({ rx := .receiving, recessive := 0, raw := [false] }, [.started]) := by
  simp [read, h]

theorem read_of_assembling {r : LineReader} (h : r.rx = .receiving) (hraw : r.raw ≠ []) (b : Bool) :
    r.read b = r.assemble b := by
  simp [read, h, hraw]

/-- A dominant bit sets the count back to 0 (R66). -/
theorem count_dominant (r : LineReader) : r.count false = ({ r with recessive := 0 }, []) := rfl

theorem count_recessive {r : LineReader} (h : r.recessive < 10) :
    r.count true = ({ r with recessive := r.recessive + 1 }, []) :=
  if_neg (by simp only [freeLineCount, if_true]; omega)

/-- The eleventh consecutive recessive bit makes the line free (R53, R66). -/
theorem count_eleventh {r : LineReader} (h : r.recessive = 10) :
    r.count true = ({ rx := .idle, recessive := 11, raw := [] }, [.free]) := by
  simp [count, freeLineCount, h]

/-- A message abandoned at a bit is discarded, and the count begins with that bit (R67). -/
theorem assemble_of_abandoned {r : LineReader} {b : Bool} (h : receive (r.raw ++ [b]) = .abandoned) :
    r.assemble b = ({ rx := .waitFree, recessive := b.toNat, raw := [] }, [.ended .abandoned]) := by
  simp only [assemble, h]

end LineReader

/-- Settles O35: the rows of the two commands, and the branches of the reader of bits. -/
theorem freeLineAndStartBit : Obligations.FreeLineAndStartBit := by
  refine ⟨fun s hr => ⟨fun ha hrx => ?_, fun hrx => ?_, exec_startBitReceived_of_not_idle⟩,
    fun r => ⟨fun hrx => ?_, fun hrx => ?_, fun b hrx hraw hb => ?_⟩⟩
  · exact exec_lineFree hr ((Link.awaitsFree_iff s.link).2 ⟨ha, hrx⟩)
  · exact exec_startBitReceived_of_idle hr hrx
  · simp only [LineReader.read_of_waitFree hrx, LineReader.count_dominant, true_and]
    refine ⟨fun hn => ?_, fun hn => ?_⟩
    · rw [LineReader.count_recessive hn]
      exact ⟨rfl, rfl⟩
    · rw [LineReader.count_eleventh hn]
      exact ⟨rfl, rfl⟩
  · exact ⟨LineReader.read_of_idle hrx true, LineReader.read_of_idle hrx false⟩
  · rw [LineReader.read_of_assembling hrx hraw, LineReader.assemble_of_abandoned hb]
    cases b <;> rfl

/-! ### The start of an attempt (R59, R61) -/

/-- On the free line a station that may send attempts the head of its list (R53, R59, R60). -/
theorem attemptNow_of_freeLine {s : State} (hr : s.running = true)
    (hm : s.station.mode = .rollCall ∨ s.station.mode = .active) (hrx : s.link.rx = .idle) (ha : s.link.attempt = none) :
    s.attemptNow = s.link.list.head.bind (formMessage s) := by
  have hmode : s.station.mode.transmits = true := by rcases hm with hm | hm <;> rw [hm] <;> rfl
  rw [State.attemptNow, hr, hmode, hrx, ha]
  cases s.link.list.head <;> rfl

theorem exec_attemptStart_of_some {s : State} {m : Message} (h : s.attemptNow = some m) :
    exec .attemptStart s =
      .next (s.setLink { s.link.startBit s.time.group with attempt := some { message := m, withdrawn := false } }) := by
  show execAttemptStart s = _
  rw [execAttemptStart, h]

theorem exec_attemptStart_of_none {s : State} (h : s.attemptNow = none) : exec .attemptStart s = .next s := by
  show execAttemptStart s = _
  rw [execAttemptStart, h]

/-- The head of the list: TRIGGER before GROUP COMMANDs before BEACON (R59). -/
theorem TransmitList.head_trigger {l : TransmitList} (h : l.trigger = true) : l.head = some .trigger := if_pos h

theorem TransmitList.head_command {l : TransmitList} {c : GroupCommand} {a : Mask} {rest : List (GroupCommand × Mask)}
    (ht : l.trigger = false) (h : l.commands = (c, a) :: rest) : l.head = some (.command c a) := by
  simp [TransmitList.head, ht, h]

theorem TransmitList.head_beacon {l : TransmitList} (ht : l.trigger = false) (hc : l.commands = [])
    (h : l.beacon ≠ .absent) : l.head = some .beacon := by
  cases hb : l.beacon with
  | absent => exact absurd hb h
  | listed => simp [TransmitList.head, ht, hc, hb]
  | again => simp [TransmitList.head, ht, hc, hb]

/-- The open episode is the one in its FILLING slot (R95). -/
theorem openEpisode_of_filling {s : State} {o : OpenEpisode} {e : Episode} (ho : s.ctrl.current = some o)
    (he : s.store.slot o.slot = .filling e) : s.openEpisode = some e := by
  simp [State.openEpisode, ho, he]

/-- The TRIGGER of an open episode that has a number and an own cause (R61). -/
theorem formTrigger_of_anchor {s : State} {e : Episode} {n : Word32} {c : OwnCause} {f : AnchorFlag} {r : Record}
    (he : s.openEpisode = some e) (hn : e.header.number = some n) (hr : e.records[e.header.preCount]? = some r)
    (hb : r.body = .anchor (.own c) f) :
    formTrigger s =
      some { sender := s.station.address, number := n, originTime := e.header.anchorTime, cause := c } := by
  have hcause : e.anchorCause = some (.own c) := by simp [Episode.anchorCause, hr, hb]
  simp [formTrigger, he, hn, hcause]

/-- Settles O36: the message formed for each head of the list. -/
theorem attemptFormsTheHeadEntry : Obligations.AttemptFormsTheHeadEntry := by
  intro s hr hm hrx ha
  have hnow := attemptNow_of_freeLine hr hm hrx ha
  refine ⟨fun o e n c f r ht ho he hn hrec hb => ?_, fun c a rest ht hc => ?_, fun ht hc hb => ?_, fun hl => ?_⟩
  · refine exec_attemptStart_of_some ?_
    rw [hnow, TransmitList.head_trigger ht, Option.bind_some, formMessage,
      formTrigger_of_anchor (openEpisode_of_filling ho he) hn hrec hb]
    rfl
  · exact exec_attemptStart_of_some (by rw [hnow, TransmitList.head_command ht hc]; rfl)
  · exact exec_attemptStart_of_some (by rw [hnow, TransmitList.head_beacon ht hc hb]; rfl)
  · exact exec_attemptStart_of_none (by rw [hnow, hl]; rfl)

end Sys2Proof.Machine
end

section
/-! PROOFS. Entry to MUTE (R65, R81, R84, R112): the transceiver and the timers are silenced, a hold mark is handed
on, the units are armed when it comes from ROLLCALL, and the claim is overtaken. -/

namespace Sys2Proof.Machine

open Sys2Proof.Machine.Claims

/-! ### What a MUTE station's records and holds leave alone -/

/-- In MUTE the register is not released and no beacon is requested, so that records and holds bring no offer, clear no
counter, and list nothing (R60, R78, R124). -/
structure SilentFrame (s t : State) : Prop where
  station : t.station = s.station
  counters : t.counters = s.counters
  offers : t.offers = s.offers
  list : s.link.list = emptyList → t.link.list = emptyList

namespace SilentFrame

theorem refl (s : State) : SilentFrame s s := ⟨rfl, rfl, rfl, id⟩

theorem trans {s t u : State} (h : SilentFrame s t) (k : SilentFrame t u) : SilentFrame s u :=
  ⟨k.station.trans h.station, k.counters.trans h.counters, k.offers.trans h.offers, k.list ∘ h.list⟩

/-- What keeps counters, offers and the transceiver is silent. -/
theorem of_link_eq {s t : State} (hs : t.station = s.station) (hc : t.counters = s.counters) (ho : t.offers = s.offers)
    (hl : t.link = s.link) : SilentFrame s t :=
  ⟨hs, hc, ho, fun h => hl ▸ h⟩

theorem isMute {s t : State} (h : SilentFrame s t) (hm : s.station.mode.isMute = true) :
    t.station.mode.isMute = true := h.station ▸ hm

end SilentFrame

theorem Mode.isMute_iff (m : Mode) : m.isMute = true ↔ ∃ r, m = .mute r := by
  cases m <;> simp [Mode.isMute]

/-- A MUTE station requests no beacon (R78). -/
theorem requestBeacon_of_mute {s : State} (hm : s.station.mode.isMute = true) : s.requestBeacon = s := by
  obtain ⟨r, hr⟩ := (Mode.isMute_iff _).1 hm
  simp [State.requestBeacon, hr, Mode.transmits]

theorem silentFrame_updateBusy {s : State} (hm : s.station.mode.isMute = true) : SilentFrame s (updateBusy s) := by
  refine .of_link_eq (captureFrame_updateBusy s).station (updateBusy_counters s) (updateBusy_offers s) ?_
  have hquiet := requestBeacon_of_mute (s := s.setCtrl { s.ctrl with ownBusy := s.busyByCounts }) hm
  unfold updateBusy
  dsimp only
  split
  · rfl
  · rw [hquiet]; rfl

theorem silentFrame_raise (s : State) (f : Attention) : SilentFrame s (s.raise f) := .of_link_eq rfl rfl rfl rfl

/-- A withdrawal lists nothing (R64). -/
theorem silentFrame_withdraw (s : State) : SilentFrame s s.withdrawTrigger where
  station := rfl
  counters := rfl
  offers := rfl
  list h := congrArg (fun l : TransmitList => { l with trigger := false }) h

theorem silentFrame_closeCurrent (e : EndStatus) (s : State) : SilentFrame s (closeCurrent e s) := by
  unfold closeCurrent
  split
  · exact .refl s
  · rename_i o _
    have hslot : SilentFrame s ((s.setStore (s.store.complete o.slot e)).setCtrl { s.ctrl with current := none }) :=
      .of_link_eq rfl rfl rfl rfl
    have hclosed := hslot.trans (silentFrame_withdraw _)
    have hflag := hclosed.trans (silentFrame_raise _ .closed)
    cases e with
    | cutByRestart => exact hclosed
    | full | timed | cutByNext | cutByHost | truncated => exact hflag

theorem silentFrame_handOver {s : State} (hm : s.station.mode.isMute = true) (r : Record) :
    SilentFrame s (handOver r s) := by
  rcases handOver_cases r s with h | ⟨o, e, _, _, ⟨_, h⟩ | ⟨_, s1, h1, ⟨_, h⟩ | ⟨_, h⟩⟩⟩
  · rw [h]; exact .refl s
  · rw [h]; exact silentFrame_closeCurrent _ s
  · have hstore : SilentFrame s s1 := h1 ▸ .of_link_eq rfl rfl rfl rfl
    have hclosed := hstore.trans (silentFrame_closeCurrent .full s1)
    rw [h]
    exact hclosed.trans (silentFrame_updateBusy (hclosed.isMute hm))
  · have hstore : SilentFrame s s1 := h1 ▸ .of_link_eq rfl rfl rfl rfl
    rw [h]
    exact hstore.trans (silentFrame_updateBusy (hstore.isMute hm))

theorem silentFrame_writeAll {s : State} (hm : s.station.mode.isMute = true) (bs : List RecordBody) :
    SilentFrame s (writeAll bs s) := by
  induction bs generalizing s with
  | nil => exact .refl s
  | cons b bs ih =>
    have hring : SilentFrame s (s.setRing (s.ring.put (stamp b s))) := .of_link_eq rfl rfl rfl rfl
    have hone : SilentFrame s (writeOne s b) := hring.trans (silentFrame_handOver (hring.isMute hm) _)
    exact hone.trans (ih (hone.isMute hm))

/-- In MUTE an examination releases nothing (R124). -/
theorem examineAfter_of_mute {t : State} (hm : t.station.mode.isMute = true) (s : State) : examineAfter s t = t := by
  obtain ⟨r, hr⟩ := (Mode.isMute_iff _).1 hm
  rcases examineAfter_cases s t with h | h
  · exact h
  · rcases examineRegister_cases t with hsame | ⟨_, _, hactive, _⟩
    · rw [h, hsame]
    · rw [hr] at hactive
      cases hactive

theorem silentFrame_suppress {s : State} (hm : s.station.mode.isMute = true) (f : SuppressedFlag)
    (cs : List OwnCause) : SilentFrame s (suppress f cs s) := by
  have hall : SilentFrame s (suppressAll f cs s) := by
    cases cs with
    | nil => exact .refl s
    | cons c cs => exact (silentFrame_writeAll hm _).trans (silentFrame_raise _ _)
  rw [suppress, examineAfter_of_mute (hall.isMute hm)]
  exact hall

theorem silentFrame_discardRegister {s : State} (hm : s.station.mode.isMute = true) :
    SilentFrame s (discardRegister s) := by
  unfold discardRegister
  split
  · exact .refl s
  · refine .trans (t := s.setCtrl { s.ctrl with register := none }) (.of_link_eq rfl rfl rfl rfl) ?_
    exact silentFrame_suppress (s := s.setCtrl { s.ctrl with register := none }) hm _ _

theorem silentFrame_setGroupHold {s : State} (hm : s.station.mode.isMute = true) :
    SilentFrame s (setGroupHold true s) := by
  unfold setGroupHold
  split
  · exact .refl s
  · have hset : SilentFrame s (s.setCtrl { s.ctrl with groupHold := true }) := .of_link_eq rfl rfl rfl rfl
    have hdiscarded := hset.trans (silentFrame_discardRegister (hset.isMute hm))
    have hraised := hdiscarded.trans (silentFrame_raise _ .hold)
    show SilentFrame s ((discardRegister _).raise .hold).requestBeacon
    rw [requestBeacon_of_mute (hraised.isMute hm)]
    exact hraised

theorem silentFrame_handOnHoldMark {s : State} (hm : s.station.mode.isMute = true) :
    SilentFrame s (handOnHoldMark s) := by
  have hmark : SilentFrame s (s.setPeers { s.peers with holdMark := false }) := .of_link_eq rfl rfl rfl rfl
  unfold handOnHoldMark
  dsimp only
  split
  · exact hmark.trans (silentFrame_setGroupHold (hmark.isMute hm))
  · exact hmark

/-! ### The hold mark handed on (R82) -/

/-- The group hold is set after roll call where it was, or where the mark was (R82, R130). -/
theorem handOnHoldMark_groupHold (s : State) :
    (handOnHoldMark s).ctrl.groupHold = (s.ctrl.groupHold || s.peers.holdMark) := by
  unfold handOnHoldMark
  cases s.peers.holdMark with
  | false => simp
  | true => simpa using (setGroupHold_holds true _).1

/-- An attention flag, once set, stays set under whatever capture does (R169). -/
theorem CaptureFrame.flagged {s t : State} (h : CaptureFrame s t) {f : Attention} (hf : s.flagged f = true) :
    t.flagged f = true := by
  have hbit : (s.port.attention &&& t.port.attention).getLsbD f.index = true := by rw [h.attention]; exact hf
  rw [BitVec.getLsbD_and, Bool.and_eq_true] at hbit
  exact hbit.2

theorem handOnHoldMark_flagged {s : State} {f : Attention} (hf : s.flagged f = true) :
    (handOnHoldMark s).flagged f = true := by
  unfold handOnHoldMark setGroupHold
  dsimp only
  split
  · split
    · exact hf
    · exact (captureFrame_holdChanged true _).flagged hf
  · exact hf

theorem handOnHoldMark_holdFrame (s : State) :
    HoldFrame (s.setPeers { s.peers with holdMark := false }) (handOnHoldMark s) := by
  unfold handOnHoldMark
  dsimp only
  split
  · exact holdFrame_setGroupHold true _
  · exact (CaptureFrame.refl _).toHold

/-- With the register EMPTY, the mark handed on touches no episode and no number (R82, R131). -/
theorem handOnHoldMark_of_empty {s : State} (h : s.ctrl.register = none) :
    (handOnHoldMark s).store = s.store ∧ (handOnHoldMark s).ctrl.current = s.ctrl.current ∧
      (handOnHoldMark s).ctrl.highest = s.ctrl.highest := by
  unfold handOnHoldMark
  dsimp only
  split
  · rw [setGroupHold_of_empty]
    · unfold groupHoldTo
      split <;> exact ⟨rfl, rfl, rfl⟩
    · exact fun _ => h
  · exact ⟨rfl, rfl, rfl⟩

/-! ### Arming (R31, R37) -/

theorem Condition.heldAtArming_eq_compared (c : Condition) (counters : Vector Word32 16) :
    c.heldAtArming counters = compared c counters := by
  cases c with
  | counter n k limit => simp only [Condition.heldAtArming, compared, Compare.holds_eq_related]
  | empty => rfl
  | line n e => rfl
  | remote a => rfl

theorem armUnit_eq_armedAs (x : UnitSettings) (counters : Vector Word32 16) :
    armUnit x counters = armedAs x counters := by
  simp only [armUnit, armedAs, Condition.heldAtArming_eq_compared]

/-- What arming makes of each unit (R31). -/
theorem armUnits_unit (s : State) (k : Fin 4) :
    (armUnits s).units[k] = armedAs s.config.items.units[k] s.counters :=
  (vecOf_get 4 _ k).trans (armUnit_eq_armedAs _ _)

/-! ### The claim overtaken (R112) -/

/-- Changing the header of the open episode sets the store, and nothing else. -/
theorem mapHeader_eq_setStore (s : State) (f : Header → Header) : ∃ st, s.mapHeader f = s.setStore st := by
  unfold State.mapHeader State.mapEpisode
  split
  · exact ⟨s.store, rfl⟩
  · split
    · exact ⟨_, rfl⟩
    · exact ⟨s.store, rfl⟩
    · exact ⟨s.store, rfl⟩

/-- The header of the open episode is changed in its FILLING slot (R95). -/
theorem mapHeader_of_filling {s : State} {o : OpenEpisode} {e : Episode} (ho : s.ctrl.current = some o)
    (he : s.store.slot o.slot = .filling e) (f : Header → Header) :
    s.mapHeader f = s.setStore (s.store.setSlot o.slot (.filling { e with header := f e.header })) := by
  simp [State.mapHeader, State.mapEpisode, ho, he]

/-- A claim overtaken changes the open episode, in the store and at the controller, and nothing else (R112). -/
theorem claimOvertakenByMute_eq (s : State) :
    ∃ st cur, claimOvertakenByMute s = (s.setStore st).setCtrl { s.ctrl with current := cur } := by
  have hsame : ∃ st cur, s = (s.setStore st).setCtrl { s.ctrl with current := cur } :=
    ⟨s.store, s.ctrl.current, rfl⟩
  unfold claimOvertakenByMute
  split
  · split
    · split
      · obtain ⟨st, hst⟩ := mapHeader_eq_setStore s
          (fun h => { h with number := none, role := .localRole, originator := none })
        exact ⟨st, _, by rw [hst]; rfl⟩
      · exact hsame
    · exact hsame
  · exact hsame

/-- An unannounced claim becomes LOCAL, with its number as the renumber floor (R112). -/
theorem claimOvertakenByMute_of_claim {s : State} {o : OpenEpisode} {e : Episode} {n : Word32}
    (ho : s.ctrl.current = some o) (he : s.store.slot o.slot = .filling e) (hc : o.claim = .unannounced)
    (hn : e.header.number = some n) :
    claimOvertakenByMute s =
      (s.setStore (s.store.setSlot o.slot (.filling
        { e with header := { e.header with number := none, role := .localRole, originator := none } }))).setCtrl
      { s.ctrl with current := some { o with floor := some n } } := by
  simp [claimOvertakenByMute, ho, openEpisode_of_filling ho he, hn, hc, mapHeader_of_filling ho he, State.mapCurrent]

/-- Any other episode is left as it is (R112). -/
theorem claimOvertakenByMute_of_other {s : State}
    (h : ∀ o, s.ctrl.current = some o → ∃ e, s.store.slot o.slot = .filling e ∧
      (o.claim ≠ .unannounced ∨ e.header.number = none)) : claimOvertakenByMute s = s := by
  unfold claimOvertakenByMute
  split
  case h_2 => rfl
  case h_1 o e' ho he' =>
    obtain ⟨e, he, hother⟩ := h o ho
    obtain rfl : e = e' := Option.some.inj ((openEpisode_of_filling ho he).symm.trans he')
    split
    case h_2 => rfl
    case h_1 n hn => exact if_neg (hother.resolve_right (by simp [hn]))

theorem claimOvertaken_self (s : State) : ClaimOvertaken s (claimOvertakenByMute s) := by
  refine ⟨fun o e n ho he hc hn => ?_, fun h => ?_, ?_⟩
  · rw [claimOvertakenByMute_of_claim ho he hc hn]
    exact ⟨rfl, rfl⟩
  · rw [claimOvertakenByMute_of_other h]
    exact ⟨rfl, rfl⟩
  · obtain ⟨st, cur, h⟩ := claimOvertakenByMute_eq s
    rw [h]
    rfl

/-- `ClaimOvertaken` reads store, open episode and highest number alone. -/
theorem claimOvertaken_of_eq {s u t : State} (hs : u.store = s.store)
    (hc : u.ctrl.current = s.ctrl.current) (hh : u.ctrl.highest = s.ctrl.highest) (h : ClaimOvertaken u t) :
    ClaimOvertaken s t := by
  simpa only [ClaimOvertaken, hs, hc, hh] using h

/-! ### The entry itself (R84) -/

/-- The state at entry to MUTE, before a hold mark is handed on: transceiver and timers silenced (R65, R78, R84). -/
def muteEntry (r : MuteReason) (s : State) : State :=
  { s with
    station := { s.station with mode := .mute r }
    port := { s.port with attention := s.port.attention ||| Attention.muted.bit }
    link := { s.link with list := emptyList, attempt := none }
    peers := { s.peers with beaconTimer := none, rollCallTimer := none } }

/-- From ROLLCALL the hold mark is handed on and the units are armed (R82, R83, R84). -/
theorem enterMute_of_rollCall {r : MuteReason} {s : State} (h : s.station.mode = .rollCall) :
    enterMute r s = claimOvertakenByMute (armUnits (handOnHoldMark (muteEntry r s))) := by
  simp only [enterMute, h, if_true, reduceCtorEq, if_false]
  rfl

/-- From ACTIVE the units keep their state (R33, R84). -/
theorem enterMute_of_active {r : MuteReason} {s : State} (h : s.station.mode = .active) :
    enterMute r s = claimOvertakenByMute (muteEntry r s) := by
  simp only [enterMute, h, if_true, reduceCtorEq, if_false]
  rfl

/-- What every entry to MUTE sets and leaves alone (R65, R78, R84). -/
structure EntersMute (r : MuteReason) (s t : State) : Prop where
  station : t.station = { s.station with mode := .mute r }
  failures : t.link.failures = s.link.failures
  list : t.link.list = emptyList
  attempt : t.link.attempt = none
  muted : t.flagged .muted = true
  beaconTimer : t.peers.beaconTimer = none
  rollCallTimer : t.peers.rollCallTimer = none
  config : t.config = s.config
  lines : t.lines = s.lines
  counters : t.counters = s.counters
  time : t.time = s.time
  offers : t.offers = s.offers

namespace EntersMute

theorem muteEntry (r : MuteReason) (s : State) : EntersMute r s (muteEntry r s) where
  station := rfl
  failures := rfl
  list := rfl
  attempt := rfl
  muted := by simp [State.flagged, Machine.muteEntry, Attention.bit, Attention.index]
  beaconTimer := rfl
  rollCallTimer := rfl
  config := rfl
  lines := rfl
  counters := rfl
  time := rfl
  offers := rfl

theorem handOnHoldMark {r : MuteReason} {s t : State} (h : EntersMute r s t) :
    EntersMute r s (handOnHoldMark t) := by
  have silent := silentFrame_handOnHoldMark (s := t) (by rw [h.station]; rfl)
  have frame := handOnHoldMark_holdFrame t
  have hattempt : (Machine.handOnHoldMark t).link.attempt = none :=
    Option.map_eq_none_iff.1 (frame.message.trans (by rw [State.setPeers_link, h.attempt]; rfl))
  exact {
    station := silent.station.trans h.station
    failures := frame.failures.trans h.failures
    list := silent.list h.list
    attempt := hattempt
    muted := handOnHoldMark_flagged h.muted
    beaconTimer := (congrArg PeerMonitor.beaconTimer frame.peers).trans h.beaconTimer
    rollCallTimer := (congrArg PeerMonitor.rollCallTimer frame.peers).trans h.rollCallTimer
    config := frame.config.trans h.config
    lines := frame.lines.trans h.lines
    counters := silent.counters.trans h.counters
    time := frame.time.trans h.time
    offers := silent.offers.trans h.offers }

/-- Arming touches the units alone (R31). -/
theorem armUnits {r : MuteReason} {s t : State} (h : EntersMute r s t) : EntersMute r s (armUnits t) :=
  { h with }

theorem claimOvertakenByMute {r : MuteReason} {s t : State} (h : EntersMute r s t) :
    EntersMute r s (claimOvertakenByMute t) := by
  obtain ⟨st, cur, heq⟩ := claimOvertakenByMute_eq t
  rw [heq]
  exact { h with }

end EntersMute

theorem entersMute_of_active {r : MuteReason} {s : State} (h : s.station.mode = .active) :
    EntersMute r s (enterMute r s) := by
  rw [enterMute_of_active h]
  exact (EntersMute.muteEntry r s).claimOvertakenByMute

theorem entersMute_of_rollCall {r : MuteReason} {s : State} (h : s.station.mode = .rollCall) :
    EntersMute r s (enterMute r s) := by
  rw [enterMute_of_rollCall h]
  exact (EntersMute.muteEntry r s).handOnHoldMark.armUnits.claimOvertakenByMute

/-- From ACTIVE, units and group hold stay (R33). -/
theorem enterMute_of_active_keeps {r : MuteReason} {s : State} (h : s.station.mode = .active) :
    (enterMute r s).units = s.units ∧ (enterMute r s).ctrl.groupHold = s.ctrl.groupHold := by
  obtain ⟨st, cur, heq⟩ := claimOvertakenByMute_eq (muteEntry r s)
  rw [enterMute_of_active h, heq]
  exact ⟨rfl, rfl⟩

/-- What entry to MUTE from ROLLCALL hands on: the hold mark, and units armed with the counters of the moment (R31, R82,
R84). -/
theorem enterMute_of_rollCall_handsOn {r : MuteReason} {s : State} (h : s.station.mode = .rollCall) :
    (enterMute r s).peers.holdMark = false ∧
      (enterMute r s).ctrl.groupHold = (s.ctrl.groupHold || s.peers.holdMark) ∧
      ∀ k : Fin 4, (enterMute r s).units[k] = armedAs s.config.items.units[k] s.counters := by
  have handed := (EntersMute.muteEntry r s).handOnHoldMark
  obtain ⟨st, cur, heq⟩ := claimOvertakenByMute_eq (armUnits (handOnHoldMark (muteEntry r s)))
  rw [enterMute_of_rollCall h, heq]
  refine ⟨?_, handOnHoldMark_groupHold (muteEntry r s), fun k => ?_⟩
  · exact congrArg PeerMonitor.holdMark (handOnHoldMark_peers (muteEntry r s))
  · refine (armUnits_unit (handOnHoldMark (muteEntry r s)) k).trans ?_
    rw [handed.config, handed.counters]

/-- The claim is overtaken at the entry, unless a hold handed on has first closed its episode (R112, R126). -/
theorem claimOvertaken_enterMute {r : MuteReason} {s : State}
    (h : s.station.mode = .active ∨ s.station.mode = .rollCall ∧ s.ctrl.register = none) :
    ClaimOvertaken s (enterMute r s) := by
  rcases h with h | ⟨h, hreg⟩
  · rw [enterMute_of_active h]
    exact claimOvertaken_of_eq rfl rfl rfl (claimOvertaken_self (muteEntry r s))
  · obtain ⟨hstore, hcurrent, hhighest⟩ := handOnHoldMark_of_empty (s := muteEntry r s) hreg
    rw [enterMute_of_rollCall h]
    exact claimOvertaken_of_eq (u := armUnits (handOnHoldMark (muteEntry r s))) hstore hcurrent hhighest
      (claimOvertaken_self _)

end Sys2Proof.Machine
end

section
/-! PROOFS. The ends of an attempt (R57, R58, R60, R62 to R65, R81, R111) and the messages that are discarded (R67 to
R69). -/

namespace Sys2Proof.Machine

open Sys2Proof.Machine.Claims

/-! ### Lost and failed attempts (R57, R58, R60, R63) -/

/-- A lost or failed attempt takes the mark to send the BEACON again off the list, and no entry (R60). -/
theorem Link.unmark_of_attempt {l : Link} {a : Attempt} (h : l.attempt = some a) :
    l.unmark = { l with list := unmarked l.list a.message } := by
  obtain ⟨m, w⟩ := a
  have hsends : l.sendsBeacon = match m with | .beacon _ => true | .trigger _ | .command _ => false := by
    cases m <;> simp [Link.sendsBeacon, h]
  unfold Link.unmark
  cases m with
  | beacon b => cases hb : l.list.beacon <;> simp [unmarked, hsends, hb]
  | trigger t => rw [hsends]; rfl
  | command c => rw [hsends]; rfl

theorem exec_arbitrationLoss {s : State} {a : Attempt} (hr : s.running = true) (ha : s.link.attempt = some a) :
    exec .arbitrationLoss s = .next { s with link := { s.link with
      attempt := none, list := unmarked s.link.list a.message } } := by
  show execArbitrationLoss s = _
  rw [execArbitrationLoss, hr, Link.unmark_of_attempt ha, ha]
  rfl

/-- The transceiver after a bit error: the entry stays, and a start bit that was read recessive leaves the assembly in
IDLE (R58, R60, section 4.8, log 22, log 23). -/
def brokenOff (e : BitError) (a : Attempt) (s : State) : State :=
  { s with link := { s.link with
    attempt := none, list := unmarked s.link.list a.message
    rx := if e = .startBit then .idle else s.link.rx
    latch := if e = .startBit then none else s.link.latch } }

theorem setLink_breakOff {s : State} {a : Attempt} (ha : s.link.attempt = some a) (e : BitError) :
    s.setLink (s.link.breakOff e) = brokenOff e a s := by
  unfold Link.breakOff
  rw [Link.unmark_of_attempt ha]
  cases e <;> rfl

/-- A foreign bit in ROLLCALL is an address conflict (R81). -/
theorem exec_attemptFailure_of_conflict {s : State} {a : Attempt} (hr : s.running = true)
    (ha : s.link.attempt = some a) (hm : s.station.mode = .rollCall) :
    exec (.attemptFailure .foreign) s = .next (settle (enterMute .conflict (brokenOff .foreign a s))) := by
  show execAttemptFailure .foreign s = _
  simp only [execAttemptFailure, setLink_breakOff ha, hr, ha, hm]
  rfl

/-- Every other error is a failed attempt (R63). -/
theorem exec_attemptFailure_of_failure {s : State} {a : Attempt} {e : BitError} (hr : s.running = true)
    (ha : s.link.attempt = some a) (he : ¬ (e = .foreign ∧ s.station.mode = .rollCall)) :
    exec (.attemptFailure e) s = .next (settle (failAttempt (brokenOff e a s))) := by
  show execAttemptFailure e s = _
  simp only [execAttemptFailure, setLink_breakOff ha, hr, ha, if_neg he]
  rfl

/-- The failure count one higher (R63). -/
def failedOnce (s : State) : State :=
  s.setLink { s.link with failures := s.link.failures + 1 }

theorem failAttempt_below {s : State} (h : s.link.failures < 15) : failAttempt s = failedOnce s :=
  if_neg (by show ¬ 16 ≤ s.link.failures + 1; omega)

/-- The 16th failure makes the station MUTE (R65). -/
theorem failAttempt_sixteenth {s : State} (h : s.link.failures = 15) :
    failAttempt s = enterMute .lineFault (failedOnce s) :=
  if_pos (by show 16 ≤ s.link.failures + 1; omega)

/-! ### Entry to MUTE ends its event -/

theorem entersMute {r : MuteReason} {s : State} (h : s.station.mode = .rollCall ∨ s.station.mode = .active) :
    EntersMute r s (enterMute r s) :=
  h.elim entersMute_of_rollCall entersMute_of_active

/-- Entry to MUTE brings no offer to take (R34). -/
theorem settle_enterMute {r : MuteReason} {s : State} (hs : OffersTaken s)
    (h : s.station.mode = .rollCall ∨ s.station.mode = .active) : settle (enterMute r s) = enterMute r s :=
  settle_of_no_offers _ ((entersMute h).offers.trans hs)

/-- Settles O37: the transceiver after the loss or the error, and then the entry to MUTE where there is one. -/
theorem lostAndFailedAttempts : Obligations.LostAndFailedAttempts := by
  refine ⟨fun a s hr ha => exec_arbitrationLoss hr ha, fun e a s ⟨hr, hs⟩ ha hmode =>
    ⟨fun he hn => ?_, fun he hn => ?_, fun he hm => ?_⟩⟩
  · rw [exec_attemptFailure_of_failure hr ha he, failAttempt_below (s := brokenOff e a s) hn, settle_of_no_offers]
    · rfl
    · exact hs
  · have entered := entersMute (r := .lineFault) (s := failedOnce (brokenOff e a s)) hmode
    refine ⟨enterMute .lineFault (failedOnce (brokenOff e a s)), ?_, entered.station, ?_, entered.list,
      entered.attempt, entered.muted, entered.beaconTimer, entered.rollCallTimer, fun hm => ?_, fun hreg => ?_,
      entered.config, entered.lines, entered.counters, entered.time⟩
    · rw [exec_attemptFailure_of_failure hr ha he, failAttempt_sixteenth (s := brokenOff e a s) hn]
      exact congrArg _ (settle_enterMute (s := failedOnce (brokenOff e a s)) hs hmode)
    · rw [entered.failures]
      exact congrArg (· + 1) hn
    · exact enterMute_of_active_keeps (s := failedOnce (brokenOff e a s)) hm
    · have hentry : s.station.mode = .active ∨ s.station.mode = .rollCall ∧ s.ctrl.register = none :=
        hmode.symm.imp_right fun hm => ⟨hm, hreg.resolve_left (by simp [hm])⟩
      exact claimOvertaken_enterMute (s := failedOnce (brokenOff e a s)) hentry
  · subst he
    have entered := entersMute_of_rollCall (r := .conflict) (s := brokenOff .foreign a s) hm
    obtain ⟨hmark, hhold, hunits⟩ :=
      enterMute_of_rollCall_handsOn (r := .conflict) (s := brokenOff .foreign a s) hm
    refine ⟨enterMute .conflict (brokenOff .foreign a s), ?_, entered.station, entered.failures, entered.list,
      entered.attempt, entered.muted, entered.beaconTimer, entered.rollCallTimer, hmark, hhold, hunits,
      fun hreg => ?_, entered.config, entered.lines, entered.counters, entered.time⟩
    · rw [exec_attemptFailure_of_conflict hr ha hm]
      exact congrArg _ (settle_enterMute (s := brokenOff .foreign a s) hs hmode)
    · exact claimOvertaken_enterMute (s := brokenOff .foreign a s) (.inr ⟨hm, hreg⟩)

/-! ### Discarded messages (R67 to R69) -/

theorem Link.assembling_iff (l : Link) : l.assembling = true ↔ l.rx = .receiving ∧ l.latch ≠ none := by
  simp [Link.assembling, Option.isSome_iff_ne_none]

theorem State.hears_iff (s : State) :
    s.hears = true ↔ s.running = true ∧ s.link.assembling = true ∧ s.link.attempt = none := by
  simp [State.hears, and_assoc]

theorem exec_messageAbandon {s : State} (hr : s.running = true) (h : s.link.assembling = true) :
    exec .messageAbandon s = .next (s.setLink { s.link with rx := .waitFree, latch := none }) :=
  if_pos (by rw [hr, h]; rfl)

theorem exec_messageInvalid {s : State} (h : s.hears = true) :
    exec .messageInvalid s = .next (s.setLink s.link.judged) := if_pos h

/-- A message of the own address is judged, and taken by R69. -/
theorem exec_ownAddressMessage {s : State} (h : s.hears = true) (ha : s.station.address ≠ 0#5) :
    exec .ownAddressMessage s = .next (settle (takeOwnAddress (s.setLink s.link.judged))) :=
  if_pos (by simp [h, ha])

/-- Settles O40: the message is discarded where it ends, but for a conflict in ROLLCALL. -/
theorem discardedMessagesLeaveNoTrace : Obligations.DiscardedMessagesLeaveNoTrace := by
  intro s ⟨hr, hs⟩ hrx hlatch
  have hassembling : s.link.assembling = true := (Link.assembling_iff s.link).2 ⟨hrx, hlatch⟩
  have hears (ha : s.link.attempt = none) : s.hears = true := s.hears_iff.2 ⟨hr, hassembling, ha⟩
  refine ⟨exec_messageAbandon hr hassembling, fun ha => exec_messageInvalid (hears ha), fun ha hown hm => ?_,
    fun ha hown hm => ?_⟩
  · rw [exec_ownAddressMessage (hears ha) hown, takeOwnAddress, State.setLink_station, if_neg hm,
      settle_of_no_offers]
    · rfl
    · exact hs
  · have entered := entersMute_of_rollCall (r := .conflict) (s := s.setLink s.link.judged) hm
    obtain ⟨-, hhold, hunits⟩ :=
      enterMute_of_rollCall_handsOn (r := .conflict) (s := s.setLink s.link.judged) hm
    refine ⟨enterMute .conflict (s.setLink s.link.judged), ?_, entered.station, entered.failures, entered.list,
      entered.muted, hhold, hunits, fun hreg => ?_, entered.config, entered.lines, entered.counters, entered.time⟩
    · rw [exec_ownAddressMessage (hears ha) hown, takeOwnAddress, State.setLink_station, if_pos hm]
      exact congrArg _ (settle_enterMute (s := s.setLink s.link.judged) hs (.inl hm))
    · exact claimOvertaken_enterMute (s := s.setLink s.link.judged) (.inr ⟨hm, hreg⟩)

/-! ### Successful attempts (R62, R111, R130) -/

/-- The transceiver after a success: count 0, the entry off the list, no attempt and no message (R62). -/
def attemptSent (a : Attempt) (s : State) : State :=
  { s with link := { s.link with
    attempt := none, latch := none, failures := 0, list := s.link.list.sent a.message a.withdrawn } }

/-- A success is reported to the owner of its entry (R62). -/
theorem exec_attemptSuccess {s : State} {a : Attempt} (hr : s.running = true) (ha : s.link.attempt = some a) :
    exec .attemptSuccess s = .next (settle (reportSuccess a (attemptSent a s))) := by
  show execAttemptSuccess s = _
  simp only [execAttemptSuccess, ha, hr, if_true]
  rfl

/-- The BEACON leaves the list, or is listed for the one marked (R60, R62). -/
theorem TransmitList.sent_beacon (l : TransmitList) (b : BeaconMessage) (w : Bool) :
    l.sent (.beacon b) w = { l with beacon := if l.beacon = .again then .listed else .absent } := by
  cases h : l.beacon <;> simp [TransmitList.sent, h]

/-- The TRIGGER sent announces an unannounced claim, whose originator the station is (R111). -/
theorem announceClaim_of_unannounced {s : State} {o : OpenEpisode} {e : Episode} (ho : s.ctrl.current = some o)
    (hc : o.claim = .unannounced) (he : s.store.slot o.slot = .filling e) :
    announceClaim s =
      (s.setStore (s.store.setSlot o.slot (.filling { e with header := { e.header with
        originator := some s.station.address, originTime := some e.header.anchorTime } }))).setCtrl
      { s.ctrl with current := some { o with claim := .announced } } := by
  simp only [announceClaim, ho, hc, if_true, mapHeader_of_filling ho he, State.mapCurrent, State.setStore_ctrl,
    Option.map_some]

/-- A group command brings no offer that a unit takes, and with the register EMPTY it discards nothing (R12, R130). -/
theorem settle_applyCommand {c : GroupCommand} {mask : Mask} {s : State} (hs : OffersTaken s)
    (hreg : s.ctrl.register = none) (hq : c = .clearCounters → ClearsQuietly mask s) :
    settle (applyCommand c mask s) = applied c mask s := by
  cases c with
  | clearCounters => exact settle_clearCounters hs (hq rfl)
  | hold =>
    rw [applyCommand, setGroupHold_of_empty true s fun _ => hreg]
    exact settle_of_no_offers _ ((groupHoldTo_offers true s).trans hs)
  | resume =>
    rw [applyCommand, applyResume_eq]
    exact settle_of_no_offers _ ((applied_resume_offers s).trans hs)

/-- Settles O38: the report to the owner of each kind of entry. -/
theorem successfulAttemptsAreReported : Obligations.SuccessfulAttemptsAreReported := by
  refine ⟨fun m w s ⟨hr, hs⟩ ha => ⟨fun b hm => ?_, fun b hm hw => ?_, fun b o e hm hw ho hc he => ?_⟩,
    fun m w s ⟨hr, hs⟩ ha hreg hq => ?_⟩
  · subst hm
    rw [exec_attemptSuccess hr ha, attemptSent, TransmitList.sent_beacon, settle_of_no_offers]
    · rfl
    · exact hs
  · subst hm hw
    rw [exec_attemptSuccess hr ha, settle_of_no_offers]
    · rfl
    · exact hs
  · subst hm hw
    rw [exec_attemptSuccess hr ha]
    show Host.Outcome.next (settle (announceClaim (attemptSent _ s))) = _
    rw [announceClaim_of_unannounced (s := attemptSent _ s) ho hc he, settle_of_no_offers]
    · rfl
    · exact hs
  · rw [exec_attemptSuccess hr ha]
    exact congrArg _ (settle_applyCommand (s := commandSent s) hs hreg hq)

end Sys2Proof.Machine
end

section
/-! PROOFS. The bits of a message: numbers and their bits, the lengths with and without fill bits, and arbitration (R50,
R52, R54, R57). -/

namespace Sys2Proof.Machine

/-! ### Numbers and their bits (R54) -/

@[simp] theorem bitsOf_length {w : Nat} (x : BitVec w) : (bitsOf x).length = w := by
  simp [bitsOf]

/-- The bits of a number stand most significant first (R54). -/
theorem bitsOf_getElem? {w k : Nat} (x : BitVec w) (h : k < w) :
    (bitsOf x)[k]? = some (x.toNat.testBit (w - 1 - k)) := by
  simp [bitsOf, h, BitVec.testBit_toNat]

theorem numberOf_concat (bs : List Bool) (b : Bool) : numberOf (bs ++ [b]) = Nat.bit b (numberOf bs) := by
  simp only [numberOf, List.foldl_append, List.foldl_cons, List.foldl_nil, Nat.bit_val]

/-- A bit string spells the number whose bits it holds, the last of them least significant (R54). -/
theorem numberOf_testBit (bs : List Bool) (i : Nat) : (numberOf bs).testBit i = (bs.reverse[i]?).getD false := by
  induction bs using List.reverseRecOn generalizing i with
  | nil => simp [numberOf]
  | append_singleton bs b ih =>
    rw [numberOf_concat, List.reverse_concat]
    cases i with
    | zero => simp
    | succ i => rw [Nat.testBit_bit_succ, ih, List.getElem?_cons_succ]

/-- A number is read back from its bits. -/
@[simp] theorem numberOf_bitsOf {w : Nat} (x : BitVec w) : numberOf (bitsOf x) = x.toNat := by
  refine Nat.eq_of_testBit_eq fun i => ?_
  rw [numberOf_testBit]
  by_cases hi : i < w
  · rw [List.getElem?_reverse (by simpa using hi), bitsOf_length, bitsOf_getElem? x (by omega), Option.getD_some]
    congr 1
    omega
  · rw [List.getElem?_eq_none (by simpa using hi), Option.getD_none, BitVec.testBit_toNat,
      BitVec.getLsbD_of_ge x i (by omega)]

/-! ### Lengths (R52, R54) -/

theorem payload_length_trigger (t : TriggerMessage) : (Message.trigger t).payload.length = 88 := by
  simp [Message.payload]

theorem payload_length_command (c : CommandMessage) : (Message.command c).payload.length = 24 := by
  simp [Message.payload]

theorem payload_length_beacon (b : BeaconMessage) : (Message.beacon b).payload.length = 96 := by
  cases h : b.rollCall <;> simp [Message.payload, beaconFlagBits, h]

/-- Start bit, arbitration field and check take 24 bits beside the payload (R54). -/
theorem filledPart_length (m : Message) : m.filledPart.length = m.payload.length + 24 := by
  simp only [Message.filledPart, Message.checked, List.length_cons, List.length_append, bitsOf_length]
  omega

/-- One more bit of the filled part, with the fill bit that a run of four equal bits calls for (R52). -/
theorem insertFill_cons (r : Run) (b : Bool) (bs : List Bool) :
    insertFill r (b :: bs) = b :: if (r.push b).length = 4 then (!b) :: insertFill { level := !b, length := 1 } bs
      else insertFill (r.push b) bs := by
  rw [insertFill]
  split <;> rfl

/-- A run grows by at most one bit, and begins anew with one. -/
theorem Run.push_length (r : Run) (b : Bool) :
    (r.push b).length = 1 ∨ r.length ≠ 0 ∧ (r.push b).length = r.length + 1 := by
  unfold Run.push
  split
  · exact .inl rfl
  · rename_i h
    exact .inr ⟨fun h0 => h (.inl h0), rfl⟩

theorem length_le_insertFill (r : Run) (bs : List Bool) : bs.length ≤ (insertFill r bs).length := by
  induction bs generalizing r with
  | nil => exact Nat.le_refl _
  | cons b bs ih =>
    rw [insertFill_cons]
    split
    · have := ih { level := !b, length := 1 }
      simp only [List.length_cons]
      omega
    · have := ih (r.push b)
      simp only [List.length_cons]
      omega

/-- Each fill bit begins a run of its own, so that three more bits at least come before the next one (R52). -/
theorem insertFill_length_le (r : Run) (bs : List Bool) (h1 : 1 ≤ r.length) (h3 : r.length ≤ 3) :
    3 * (insertFill r bs).length + 1 ≤ 4 * bs.length + r.length := by
  induction bs generalizing r with
  | nil => simpa [insertFill] using h1
  | cons b bs ih =>
    have hpush := r.push_length b
    rw [insertFill_cons]
    split
    · have := ih { level := !b, length := 1 } (Nat.le_refl 1) (by show 1 ≤ 3; omega)
      simp only [List.length_cons] at this ⊢
      omega
    · have := ih (r.push b) (by omega) (by omega)
      simp only [List.length_cons]
      omega

theorem frame_length (m : Message) : m.frame.length = (insertFill Run.start m.filledPart).length + 8 := by
  simp [Message.frame, endBits]

/-- After the start bit at most one fill bit comes on every three bits (R52). -/
theorem frame_length_le (m : Message) : 3 * m.frame.length + 1 ≤ 4 * m.filledPart.length + 24 := by
  have hstart (bs : List Bool) :
      insertFill Run.start (false :: bs) = false :: insertFill { level := false, length := 1 } bs := rfl
  have hfill := insertFill_length_le { level := false, length := 1 } (m.checked ++ bitsOf (checkOf m.checked))
    (Nat.le_refl 1) (by show 1 ≤ 3; omega)
  rw [frame_length, Message.filledPart, hstart]
  simp only [List.length_cons] at hfill ⊢
  omega

/-- The numbers of bits of a message, by the length of its payload: without fill bits, and at most with them (R54). -/
theorem frame_length_bounds {m : Message} {n : Nat} (h : m.payload.length = n) :
    m.filledPart.length + 8 = n + 32 ∧ n + 32 ≤ m.frame.length ∧ 3 * m.frame.length ≤ 4 * n + 119 := by
  have hfilled := filledPart_length m
  have hfill := length_le_insertFill Run.start m.filledPart
  have hmost := frame_length_le m
  rw [frame_length] at hmost ⊢
  omega

/-! ### Arbitration (R57) -/

/-- The arbitration field spells the arbitration number (R54, R57). -/
theorem checked_getElem? (m : Message) {k : Nat} (h : k < 7) :
    m.checked[k]? = some (m.arbitration.testBit (6 - k)) := by
  have hsender : m.sender.toNat < 2 ^ 5 := m.sender.isLt
  have hnumber : m.arbitration = 2 ^ 5 * m.class.toNat + m.sender.toNat := by
    rw [Message.arbitration]; omega
  rw [hnumber, Nat.testBit_two_pow_mul_add _ hsender, Message.checked, List.append_assoc]
  by_cases hk : k < 2
  · rw [List.getElem?_append_left (by simpa using hk), bitsOf_getElem? _ hk, if_neg (by omega)]
    congr 2
    omega
  · rw [List.getElem?_append_right (by simp; omega), bitsOf_length,
      List.getElem?_append_left (by simp; omega), bitsOf_getElem? _ (by omega), if_pos (by omega)]
    congr 2
    omega

theorem arbitration_lt (m : Message) : m.arbitration < 2 ^ 7 := by
  have hclass := m.class.isLt
  have hsender := m.sender.isLt
  rw [Message.arbitration]
  omega

/-- Of two numbers the lower has a 0 where they first differ, most significant bit first. -/
theorem exists_first_difference {x y w : Nat} (hxy : x < y) (hy : y < 2 ^ w) :
    ∃ k, k < w ∧ (∀ j, j < k → x.testBit (w - 1 - j) = y.testBit (w - 1 - j)) ∧
      x.testBit (w - 1 - k) = false ∧ y.testBit (w - 1 - k) = true := by
  obtain ⟨i, hi, habove⟩ := Nat.exists_most_significant_bit (n := x ^^^ y) (by simpa using hxy.ne)
  rw [Nat.testBit_xor] at hi
  have hsame (j : Nat) (hj : i < j) : x.testBit j = y.testBit j := by simpa using habove j hj
  have hbits : x.testBit i = false ∧ y.testBit i = true := by
    cases hx : x.testBit i with
    | false => exact ⟨rfl, by simpa [hx] using hi⟩
    | true =>
      have hyi : y.testBit i = false := by simpa [hx] using hi
      exact absurd (Nat.lt_of_testBit i hyi hx fun j hj => (hsame j hj).symm) hxy.not_gt
  have hiw : i < w := by
    by_contra hge
    have := Nat.testBit_lt_two_pow (hy.trans_le (Nat.pow_le_pow_right (by omega) (Nat.not_lt.1 hge)))
    rw [hbits.2] at this
    cases this
  refine ⟨w - 1 - i, by omega, fun j hj => hsame _ (by omega), ?_⟩
  rwa [show w - 1 - (w - 1 - i) = i by omega]

/-- Settles O50: the lengths by the number of fill bits, and arbitration by the first differing bit of the arbitration
numbers. -/
theorem frameLengthsAndArbitration : Obligations.FrameLengthsAndArbitration := by
  refine ⟨fun m => ?_, fun m n hlt => ?_⟩
  · cases m with
    | trigger t =>
      obtain ⟨hlen, hleast, hmost⟩ := frame_length_bounds (payload_length_trigger t)
      exact ⟨hlen, hlen.trans_le hleast, by show _ ≤ 157; omega⟩
    | command c =>
      obtain ⟨hlen, hleast, hmost⟩ := frame_length_bounds (payload_length_command c)
      exact ⟨hlen, hlen.trans_le hleast, by show _ ≤ 71; omega⟩
    | beacon b =>
      obtain ⟨hlen, hleast, hmost⟩ := frame_length_bounds (payload_length_beacon b)
      exact ⟨hlen, hlen.trans_le hleast, by show _ ≤ 167; omega⟩
  · obtain ⟨k, hk, hsame, hm, hn⟩ := exists_first_difference hlt (arbitration_lt n)
    refine ⟨k, hk, fun j hj => ?_, ?_, ?_, rfl, rfl, rfl⟩
    · rw [checked_getElem? m (hj.trans hk), checked_getElem? n (hj.trans hk)]
      exact congrArg some (hsame j hj)
    · rw [checked_getElem? m hk]
      exact congrArg some hm
    · rw [checked_getElem? n hk]
      exact congrArg some hn

end Sys2Proof.Machine
end

section
/-! PROOFS. A message is read back from its own bits (R52, R54 to R56, R66, R68, R173, R174). -/

namespace Sys2Proof.Machine

/-! ### Fill bits read away (R52, R66) -/

/-- The run once the fill bit has been read that four equal bits call for (R52). -/
def Run.filled (r : Run) : Run :=
  if r.length < 4 then r else { level := !r.level, length := 1 }

/-- The bits still to come on the line, with the fill bit first that four equal bits call for (R52). -/
def fillFrom (r : Run) (bs : List Bool) : List Bool :=
  if r.length < 4 then insertFill r bs else (!r.level) :: insertFill { level := !r.level, length := 1 } bs

/-- Up to three equal bits call for no fill bit (R52). -/
theorem fillFrom_of_lt {r : Run} (h : r.length < 4) (bs : List Bool) : fillFrom r bs = insertFill r bs := if_pos h

theorem Run.filled_length_lt (r : Run) : r.filled.length < 4 := by
  unfold Run.filled
  split
  · assumption
  · show 1 < 4
    omega

/-- A fill bit on the line is read as one, and leaves the bits after it (R52). -/
theorem readFill_fillFrom (r : Run) (bs rest : List Bool) :
    readFill r (fillFrom r bs ++ rest) = .bits [] r.filled (insertFill r.filled bs ++ rest) := by
  unfold readFill fillFrom Run.filled
  split
  · rfl
  · simp

theorem Run.push_level (r : Run) (b : Bool) : (r.push b).level = b := by
  unfold Run.push
  split <;> rfl

/-- The bit of the filled part comes first, and then what its run calls for (R52). -/
theorem insertFill_cons_eq_fillFrom {r : Run} (h : r.length < 4) (b : Bool) (bs : List Bool) :
    insertFill r (b :: bs) = b :: fillFrom (r.push b) bs := by
  have hpush := r.push_length b
  have hlevel := r.push_level b
  rw [insertFill_cons, fillFrom]
  by_cases h4 : (r.push b).length = 4
  · rw [if_pos h4, if_neg (by omega), hlevel]
  · rw [if_neg h4, if_pos (by omega)]

/-- The run after these bits have been read. -/
def Run.after (r : Run) (bs : List Bool) : Run :=
  bs.foldl (fun r b => r.filled.push b) r

/-- Bits sent with their fill bits are read without them, and what follows them is left (R52, R66). -/
theorem readFilled_fillFrom (r : Run) (as bs rest : List Bool) :
    readFilled as.length r (fillFrom r (as ++ bs) ++ rest) =
      .bits as (r.after as) (fillFrom (r.after as) bs ++ rest) := by
  induction as generalizing r with
  | nil => rfl
  | cons a as ih =>
    rw [List.cons_append, List.length_cons, readFilled, readFill_fillFrom,
      insertFill_cons_eq_fillFrom r.filled_length_lt, List.cons_append]
    simp only [ih]
    rfl

/-! ### Fields (R54, R55) -/

/-- A field that follows others is found behind them. -/
theorem fieldOf_append {v start w : Nat} (x : BitVec v) (bs : List Bool) (h : v ≤ start) :
    fieldOf (bitsOf x ++ bs) start w = fieldOf bs (start - v) w := by
  rw [fieldOf, fieldOf, List.drop_append, List.drop_eq_nil_of_le (by simpa using h), bitsOf_length, List.nil_append]

/-- A field is read back from its bits. -/
theorem fieldOf_bitsOf_append {w : Nat} (x : BitVec w) (bs : List Bool) : fieldOf (bitsOf x ++ bs) 0 w = x := by
  rw [fieldOf, List.drop_zero, List.take_left' (bitsOf_length x), numberOf_bitsOf, BitVec.ofNat_toNat,
    BitVec.setWidth_eq]

theorem fieldOf_bitsOf {w : Nat} (x : BitVec w) : fieldOf (bitsOf x) 0 w = x := by
  simpa using fieldOf_bitsOf_append x []

/-- Each bit of a field is read back, the last of them least significant. -/
theorem fieldOf_getLsbD {bs : List Bool} {w i : Nat} {b : Bool} (hw : bs.length = w) (hi : i < w)
    (hb : bs[w - 1 - i]? = some b) : (fieldOf bs 0 w).getLsbD i = b := by
  subst hw
  rw [fieldOf, List.drop_zero, List.take_length, BitVec.getLsbD_ofNat, numberOf_testBit, List.getElem?_reverse hi, hb]
  simp [hi]

/-- The low bits of a field are read back where a number ends it. -/
theorem fieldOf_setWidth {as : List Bool} {v w : Nat} (x : BitVec v) (hw : (as ++ bitsOf x).length = w) :
    (fieldOf (as ++ bitsOf x) 0 w).setWidth v = x := by
  have hlen : as.length + v = w := by simpa using hw
  refine BitVec.eq_of_getLsbD_eq fun i hi => ?_
  rw [BitVec.getLsbD_setWidth, ← BitVec.testBit_toNat x, decide_eq_true hi, Bool.true_and]
  refine fieldOf_getLsbD hw (by omega) ?_
  rw [List.getElem?_append_right (by omega), bitsOf_getElem? x (by omega)]
  congr 2
  omega

/-! ### Codes (R173) -/

theorem causeOfCode_causeCode (c : OwnCause) : causeOfCode (causeCode c) = some c := by
  cases c with
  | software => rfl
  | unit k =>
    have hk : (BitVec.ofNat 8 k.val).toNat = k.val := by
      have := k.isLt
      rw [BitVec.toNat_ofNat]
      omega
    simp [causeOfCode, causeCode, hk]

theorem commandOfCode_code (c : GroupCommand) : commandOfCode c.code = some c := by
  cases c <;> rfl

theorem restartCauseOfCode_restartCode (c : RestartCause) : restartCauseOfCode (restartCode c) = some c := by
  cases c <;> rfl

/-! ### The message of its arbitration field and payload (R55, R68) -/

theorem checked_class (m : Message) : numberOf (m.checked.take 2) = m.class.toNat := by
  rw [Message.checked, List.append_assoc, List.take_left' (bitsOf_length m.class), numberOf_bitsOf]

theorem checked_sender (m : Message) : fieldOf m.checked 2 5 = m.sender := by
  rw [Message.checked, List.append_assoc, fieldOf_append _ _ (Nat.le_refl 2), fieldOf_bitsOf_append]

/-- The payload begins behind the seven arbitration bits (R54). -/
theorem checked_payload (m : Message) {start w : Nat} (h : 7 ≤ start) :
    fieldOf m.checked start w = fieldOf m.payload (start - 7) w := by
  rw [Message.checked, List.append_assoc, fieldOf_append _ _ (by omega), fieldOf_append _ _ (by omega),
    Nat.sub_sub]

theorem triggerOf_checked {t : TriggerMessage} (h : t.number ≠ 0#32) :
    triggerOf (Message.trigger t).checked = some t := by
  have hsender : fieldOf (Message.trigger t).checked 2 5 = t.sender := checked_sender _
  simp [triggerOf, checked_payload, hsender, Message.payload, fieldOf_append, fieldOf_bitsOf_append, fieldOf_bitsOf,
    causeOfCode_causeCode, h]

theorem groupCommandOf_checked {c : CommandMessage} (h : c.command ≠ .clearCounters → c.argument = 0#16) :
    groupCommandOf (Message.command c).checked = some c := by
  have hsender : fieldOf (Message.command c).checked 2 5 = c.sender := checked_sender _
  have hargument : (if c.command = .clearCounters then c.argument else 0#16) = c.argument :=
    ite_eq_left_iff.2 fun hc => (h hc).symm
  simp [groupCommandOf, checked_payload, hsender, Message.payload, fieldOf_append, fieldOf_bitsOf_append,
    fieldOf_bitsOf, commandOfCode_code, hargument]

theorem beaconFlagBits_length (b : BeaconMessage) : (beaconFlagBits b).length = 8 := by
  cases h : b.rollCall <;> simp [beaconFlagBits, h]

/-- The flag byte of a BEACON as it is read. -/
def beaconFlags (b : BeaconMessage) : BitVec 8 := fieldOf (beaconFlagBits b) 0 8

theorem beaconFlags_busy (b : BeaconMessage) : (beaconFlags b).getLsbD 7 = b.busy :=
  fieldOf_getLsbD (beaconFlagBits_length b) (by omega) rfl

theorem beaconFlags_groupHold (b : BeaconMessage) : (beaconFlags b).getLsbD 6 = b.groupHold :=
  fieldOf_getLsbD (beaconFlagBits_length b) (by omega) rfl

theorem beaconFlags_localHold (b : BeaconMessage) : (beaconFlags b).getLsbD 5 = b.localHold :=
  fieldOf_getLsbD (beaconFlagBits_length b) (by omega) rfl

theorem beaconFlags_rollCall (b : BeaconMessage) : (beaconFlags b).getLsbD 4 = b.rollCall.isSome :=
  fieldOf_getLsbD (beaconFlagBits_length b) (by omega) rfl

/-- The restart cause stands in the low two bits where ROLLCALL is set (R173). -/
theorem beaconFlags_restartCause {b : BeaconMessage} {c : RestartCause} (h : b.rollCall = some c) :
    (beaconFlags b).setWidth 2 = restartCode c := by
  have hbits : beaconFlagBits b =
      [b.busy, b.groupHold, b.localHold, b.rollCall.isSome, false, false] ++ bitsOf (restartCode c) := by
    simp [beaconFlagBits, h]
  rw [beaconFlags, hbits]
  exact fieldOf_setWidth (restartCode c) (by simp)

theorem beaconOf_checked {b : BeaconMessage} (h : b.interval ≠ 0#8) :
    beaconOf (Message.beacon b).checked = some b := by
  have hsender : fieldOf (Message.beacon b).checked 2 5 = b.sender := checked_sender _
  have hflags : fieldOf (Message.beacon b).checked 95 8 = beaconFlags b := by
    simp [checked_payload, Message.payload, fieldOf_append, beaconFlags]
  have htime : fieldOf (Message.beacon b).checked 7 48 = b.time := by
    simp [checked_payload, Message.payload, fieldOf_bitsOf_append]
  have hhighest : fieldOf (Message.beacon b).checked 55 32 = b.highest := by
    simp [checked_payload, Message.payload, fieldOf_append, fieldOf_bitsOf_append]
  have hinterval : fieldOf (Message.beacon b).checked 87 8 = b.interval := by
    simp [checked_payload, Message.payload, fieldOf_append, fieldOf_bitsOf_append]
  simp only [beaconOf, hsender, hflags, htime, hhighest, hinterval, beaconFlags_busy, beaconFlags_groupHold,
    beaconFlags_localHold, beaconFlags_rollCall, if_neg h]
  cases hc : b.rollCall with
  | none => simp [← hc]
  | some c =>
    simp only [beaconFlags_restartCause hc, restartCauseOfCode_restartCode, Option.isSome_some, if_true,
      Option.map_some]
    rw [← hc]

/-- What R68 asks of a message's fields, and of its bits that they stand for no other message: a HOLD and a RESUME have
no argument to be read back. -/
def ValidFields (m : Message) : Prop :=
  m.sender ≠ 0#5 ∧ match m with
    | .trigger t => t.number ≠ 0#32
    | .command c => c.command ≠ .clearCounters → c.argument = 0#16
    | .beacon b => b.interval ≠ 0#8

/-- A message is found again in its arbitration field and payload (R54, R55, R68). -/
theorem messageOf_checked {m : Message} (h : ValidFields m) : messageOf m.checked = some m := by
  obtain ⟨hsender, hfields⟩ := h
  rw [messageOf, checked_sender, if_neg hsender, checked_class]
  cases m with
  | trigger t => exact congrArg (Option.map Message.trigger) (triggerOf_checked hfields)
  | command c => exact congrArg (Option.map Message.command) (groupCommandOf_checked hfields)
  | beacon b => exact congrArg (Option.map Message.beacon) (beaconOf_checked hfields)

/-! ### The frame (R52, R54, R56) -/

/-- The bits up to the class, which says how many follow: start bit and arbitration field (R54). -/
def Message.headBits (m : Message) : List Bool :=
  false :: (bitsOf m.class ++ bitsOf m.sender)

/-- The bits behind the arbitration field: payload and check (R54, R56). -/
def Message.tailBits (m : Message) : List Bool :=
  m.payload ++ bitsOf (checkOf m.checked)

theorem filledPart_eq (m : Message) : m.filledPart = m.headBits ++ m.tailBits := by
  simp [Message.filledPart, Message.checked, Message.headBits, Message.tailBits]

theorem headBits_length (m : Message) : m.headBits.length = 8 := by
  simp [Message.headBits]

theorem tailBits_length (m : Message) : m.tailBits.length = m.payload.length + 16 := by
  simp [Message.tailBits]

/-- The class says how many bits the payload has (R54). -/
theorem payloadLength_class (m : Message) : payloadLength m.class.toNat = some m.payload.length := by
  cases m with
  | trigger t => rw [payload_length_trigger]; rfl
  | command c => rw [payload_length_command]; rfl
  | beacon b => rw [payload_length_beacon]; rfl

theorem payloadLength_headBits (m : Message) :
    payloadLength (numberOf ((m.headBits.drop 1).take 2)) = some m.payload.length := by
  rw [Message.headBits, List.drop_one, List.tail_cons, List.take_left' (bitsOf_length m.class), numberOf_bitsOf,
    payloadLength_class]

/-- The check that was sent with a message is its own (R56, R68). -/
theorem judge_sent {m : Message} (h : ValidFields m) :
    judge m.checked (bitsOf (checkOf m.checked)) = .valid m := by
  simp only [judge, numberOf_bitsOf, if_true, messageOf_checked h]

/-- Eight recessive end bits leave the judgement as it is (R67). -/
theorem readEnd_endBits (v : Verdict) : readEnd 8 v endBits = v := rfl

/-- The frame of a message is read to its end, fill bits and all, and its own check judges it valid (R52, R66, R68). -/
theorem receive_frame {m : Message} (h : ValidFields m) : receive m.frame = .valid m := by
  have hframe : m.frame = fillFrom Run.start (m.headBits ++ m.tailBits) ++ endBits := by
    rw [Message.frame, filledPart_eq, fillFrom_of_lt (Nat.succ_pos 3)]
  have hhead := readFilled_fillFrom Run.start m.headBits m.tailBits endBits
  have htail := readFilled_fillFrom (Run.start.after m.headBits) m.tailBits [] endBits
  have hlast := readFill_fillFrom ((Run.start.after m.headBits).after m.tailBits) [] endBits
  rw [headBits_length] at hhead
  rw [tailBits_length, List.append_nil] at htail
  have hbody : m.headBits.drop 1 ++ m.tailBits.take m.payload.length = m.checked := by
    simp [Message.headBits, Message.tailBits, Message.checked]
  have hcheck : m.tailBits.drop m.payload.length = bitsOf (checkOf m.checked) := by
    simp [Message.tailBits]
  simp only [receive, hframe, hhead, payloadLength_headBits, htail, hlast, hbody, hcheck, judge_sent h]
  exact readEnd_endBits _

/-- Settles O49: the fields that R68 asks for are valid, and a frame of valid fields is read back. -/
theorem receivedFrameIsTheMessageSent : Obligations.ReceivedFrameIsTheMessageSent := by
  intro m h
  refine receive_frame ?_
  cases m with
  | trigger t => simpa [ValidFields, Message.sender, TriggerMessage.wellFormed] using h
  | command c => exact h
  | beacon b => simpa [ValidFields, Message.sender, BeaconMessage.wellFormed] using h

end Sys2Proof.Machine
end

section
/-! PROOFS. One microsecond of the station's clock: both clocks count, and the expiries then due are queued (R87, log 1
to 3). -/

namespace Sys2Proof.Machine

open Sys2Proof.Machine.Claims

/-! ### Timers that have reached their limits -/

theorem reached_iff (now since limit : Nat) : reached now since limit = true ↔ limit ≤ now - since :=
  decide_eq_true_iff

/-- A PENDING input is due once its timer has reached the time in force (R1, R6). -/
theorem LineInput.due_iff (x : LineInput) (now : Nat) :
    x.due now = true ↔ ∃ since inForce, x.phase = .pending since inForce ∧ inForce ≤ now - since := by
  unfold LineInput.due
  cases x.phase with
  | steady => simp
  | pending since inForce => simp [reached_iff]

/-- The window of an armed unit in WAIT-B is due once its timer has reached W (R42, R43). -/
theorem State.windowDue_iff (s : State) (k : Fin 4) :
    s.windowDue k = true ↔
      ∃ u since, s.units[k] = .armed u ∧ u.phase = .waitB since ∧ s.config.items.units[k].window ≤ s.now - since := by
  unfold State.windowDue
  cases s.units[k] with
  | disabled => simp
  | armed u =>
    unfold ArmedUnit.windowDue
    cases hphase : u.phase with
    | waitA => simp [hphase]
    | waitB since => simp [hphase, reached_iff]

/-- The open episode is due to close once its timer has reached the post-time limit (R115). -/
theorem State.postTimeDue_iff (s : State) :
    s.postTimeDue = true ↔ ∃ o, s.ctrl.current = some o ∧ 1000 * s.config.items.postTime ≤ s.now - o.timer := by
  unfold State.postTimeDue
  cases s.ctrl.current with
  | none => simp
  | some o => simp [reached_iff, ms]

/-- The register is due to expire once its timer has reached the hold limit (R125). -/
theorem State.holdLimitDue_iff (s : State) :
    s.holdLimitDue = true ↔ ∃ h, s.ctrl.register = some h ∧ 1000 * s.config.items.holdLimit ≤ s.now - h.since := by
  unfold State.holdLimitDue
  cases s.ctrl.register with
  | none => simp
  | some h => simp [reached_iff, ms]

/-- A PRESENT peer is silent once its timer has reached its limit (R75). -/
theorem PeerEntry.silent_iff (e : PeerEntry) (now : Nat) :
    e.silent now = true ↔
      e.state = .present ∧ ∃ heardAt, e.lastHeard = some heardAt ∧ e.silenceLimit ≤ now - heardAt := by
  unfold PeerEntry.silent
  cases e.state with
  | absent => simp
  | lost => simp
  | present => cases e.lastHeard <;> simp [reached_iff]

/-- A timer is due where it runs and has reached its limit. -/
theorem timerDue_iff (now limit : Nat) (t : Option Nat) :
    timerDue now t limit = true ↔ ∃ since, t = some since ∧ limit ≤ now - since := by
  cases t <;> simp [timerDue, reached_iff]

/-- A station sends in ROLLCALL and in ACTIVE (R60). -/
theorem Mode.transmits_iff (m : Mode) : m.transmits = true ↔ m = .rollCall ∨ m = .active := by
  cases m <;> simp [Mode.transmits]

/-- The beacon timer is due once it has reached I, in ROLLCALL and ACTIVE (R78). -/
theorem State.beaconDue_iff (s : State) :
    s.beaconDue = true ↔ (s.station.mode = .rollCall ∨ s.station.mode = .active) ∧
      ∃ since, s.peers.beaconTimer = some since ∧ 1000 * s.config.items.beaconInterval ≤ s.now - since := by
  rw [State.beaconDue, Bool.and_eq_true, Mode.transmits_iff, timerDue_iff]
  rfl

/-- Roll call is due to end once its timer has reached 2 × I (R83). -/
theorem State.rollCallDue_iff (s : State) :
    s.rollCallDue = true ↔ s.station.mode = .rollCall ∧
      ∃ since, s.peers.rollCallTimer = some since ∧ 1000 * (2 * s.config.items.beaconInterval) ≤ s.now - since := by
  rw [State.rollCallDue, Bool.and_eq_true, beq_iff_eq, timerDue_iff]
  rfl

/-! ### The expiries due -/

theorem mem_whenDue {due : Bool} {c d : Instr} : d ∈ whenDue due c ↔ due = true ∧ d = c := by
  cases due <;> simp [whenDue]

theorem mem_peerAddresses (a : Address) : a ∈ peerAddresses ↔ a ≠ 0#5 := by
  revert a
  decide

/-- A command is among the timers due where it is the expiry of one that is. -/
theorem mem_dueTimers (c : Instr) (s : State) :
    c ∈ dueTimers s ↔
      (∃ n, (s.line n).due s.now = true ∧ c = .qualificationTimerExpiry n) ∨
      (s.lines.veto.due s.now = true ∧ c = .vetoQualificationExpiry) ∨
      (∃ k, s.windowDue k = true ∧ c = .windowExpiry k) ∨
      (s.postTimeDue = true ∧ c = .postTimeExpiry) ∨
      (s.holdLimitDue = true ∧ c = .holdLimitExpiry) ∨
      (∃ a, a ≠ 0#5 ∧ (s.peer a).silent s.now = true ∧ c = .silenceTimerExpiry a) ∨
      (s.beaconDue = true ∧ c = .beaconTimerExpiry) ∨
      (s.rollCallDue = true ∧ c = .rollCallExpiry) := by
  simp only [dueTimers, List.mem_append, List.mem_flatMap, mem_whenDue, mem_peerAddresses, List.mem_finRange,
    true_and, or_assoc]

/-- The limit of group time is due where the count stands at it and has not stopped (R87). -/
theorem groupTimeLimit_due_iff (s : State) :
    (s.time.group == Time.limit && !s.time.stopped) = true ↔
      s.time.group = 281474976710655#48 ∧ s.time.stopped = false := by
  simp [Time.limit]

/-- The expiries queued are those of the timers that have reached their limits, and of group time at its own. -/
theorem mem_dueExpiries (c : Instr) (s : State) : c ∈ dueExpiries s ↔ Due s c := by
  have hmem : c ∈ dueExpiries s ↔ (s.running = true ∧ c ∈ dueTimers s) ∨
      ((s.time.group = 281474976710655#48 ∧ s.time.stopped = false) ∧ c = .groupTimeLimit) := by
    rw [dueExpiries, List.mem_append, mem_whenDue, groupTimeLimit_due_iff]
    cases s.running <;> simp
  rw [hmem, mem_dueTimers]
  cases c with
  | qualificationTimerExpiry n => simp [Due, LineInput.due_iff]
  | vetoQualificationExpiry => simp [Due, LineInput.due_iff]
  | windowExpiry k => simp [Due, State.windowDue_iff]
  | postTimeExpiry => simp [Due, State.postTimeDue_iff]
  | holdLimitExpiry => simp [Due, State.holdLimitDue_iff]
  | silenceTimerExpiry a =>
    cases hi : (s.peer a).interval <;> simp [Due, PeerEntry.silent_iff, PeerEntry.silenceLimit, ms, hi]
  | beaconTimerExpiry => simp [Due, State.beaconDue_iff]
  | rollCallExpiry => simp [Due, State.rollCallDue_iff]
  | groupTimeLimit => simp [Due]
  | _ => exact iff_of_false (by simp) id

/-! ### Each expiry once -/

/-- Every expiry that the clock can queue, once. -/
def allExpiries : List Instr :=
  (List.finRange 16).map .qualificationTimerExpiry ++ [.vetoQualificationExpiry]
    ++ (List.finRange 4).map .windowExpiry ++ [.postTimeExpiry] ++ [.holdLimitExpiry]
    ++ peerAddresses.map .silenceTimerExpiry ++ [.beaconTimerExpiry] ++ [.rollCallExpiry] ++ [.groupTimeLimit]

theorem nodup_allExpiries : allExpiries.Nodup := by decide

theorem whenDue_sublist (due : Bool) (c : Instr) : (whenDue due c).Sublist [c] := by
  cases due <;> simp [whenDue]

theorem flatMap_whenDue_sublist {α : Type} (due : α → Bool) (c : α → Instr) (l : List α) :
    (l.flatMap (fun x => whenDue (due x) (c x))).Sublist (l.map c) := by
  induction l with
  | nil => exact .slnil
  | cons x l ih => exact (whenDue_sublist (due x) (c x)).append ih

/-- The expiries due stand in the order of `allExpiries`. -/
theorem dueExpiries_sublist (s : State) : (dueExpiries s).Sublist allExpiries := by
  refine List.Sublist.append ?_ (whenDue_sublist _ _)
  split
  · exact (((((((flatMap_whenDue_sublist _ _ _).append (whenDue_sublist _ _)).append
      (flatMap_whenDue_sublist _ _ _)).append (whenDue_sublist _ _)).append (whenDue_sublist _ _)).append
      (flatMap_whenDue_sublist _ _ _)).append (whenDue_sublist _ _)).append (whenDue_sublist _ _)
  · exact List.nil_sublist _

theorem nodup_dueExpiries (s : State) : (dueExpiries s).Nodup :=
  nodup_allExpiries.sublist (dueExpiries_sublist s)

/-! ### The statement -/

/-- The two clocks after a microsecond (R87). -/
theorem TimeBase.tick_eq (x : TimeBase) :
    x.tick = { x with
      elapsed := x.elapsed + 1
      group := if x.stopped = true ∨ x.group = 281474976710655#48 then x.group else x.group + 1#48 } := by
  simp [TimeBase.tick, Time.limit]

theorem step_of_empty_queue {s : State} (h : s.pending = []) : step s = .next (tick s) := by
  simp [step, h]

/-- Settles O3: the queue after the tick is a free order of the expiries due. -/
theorem emptyQueueTicksOneMicrosecond : Obligations.EmptyQueueTicksOneMicrosecond := by
  intro s hempty
  rw [step_of_empty_queue hempty]
  refine ⟨fun hsupply => ⟨tick s, rfl, ?_⟩, fun hnone => ?_⟩
  · have hpending : (tick s).pending = freeOrder s.choice (dueExpiries (s.setTime s.time.tick)) := by
      simp [tick, hsupply, hempty]
    have htime : (tick s).time = s.time.tick := by simp [tick, hsupply]
    refine ⟨htime.trans s.time.tick_eq, fun c => ?_, ?_, ?_⟩
    · rw [hpending, mem_freeOrder, mem_dueExpiries, htime]
      rfl
    · rw [hpending, (freeOrder_perm _ _).nodup_iff]
      exact nodup_dueExpiries _
    · simp only [tick, hsupply, if_true]
      rfl
  · simp [tick, hnone]

end Sys2Proof.Machine
end

section
/-! PROOFS. Peers, beacons and group time while no episode is open and the register is EMPTY (R73 to R78, R82, R87,
R89, R92, R94, R121). -/

namespace Sys2Proof.Machine

open Sys2Proof.Machine.Claims

/-! ### Beacon requests and the limit of group time (R60, R78, R87) -/

/-- A beacon request goes by the BEACON place and by the message in attempt (R60). -/
theorem Link.requestBeacon_eq_requested (l : Link) :
    l.requestBeacon =
      { l with list := { l.list with beacon := requested l.list.beacon (l.attempt.map Attempt.message) } } := by
  have hplace : (match l.list.beacon with
      | .absent => BeaconEntry.listed
      | .listed => if l.sendsBeacon then .again else .listed
      | .again => .again) = requested l.list.beacon (l.attempt.map Attempt.message) := by
    cases l.list.beacon with
    | absent => rfl
    | again => rfl
    | listed =>
      unfold Link.sendsBeacon
      rcases l.attempt with _ | ⟨m, w⟩
      · rfl
      · cases m <;> rfl
  exact congrArg (fun b => { l with list := { l.list with beacon := b } }) hplace

/-- A station that may send requests a beacon (R78). -/
theorem requestBeacon_of_transmits {s : State} (h : s.station.mode = .rollCall ∨ s.station.mode = .active) :
    s.requestBeacon = s.setLink s.link.requestBeacon :=
  if_pos ((Mode.transmits_iff _).2 h)

theorem exec_beaconTimerExpiry {s : State} (hr : s.running = true) (hdue : s.beaconDue = true) :
    exec .beaconTimerExpiry s = .next (s.setPeers { s.peers with beaconTimer := none }).requestBeacon :=
  if_pos (by rw [hr, hdue]; rfl)

theorem exec_groupTimeLimit {s : State} (hsupply : s.power.supply = true) (hg : s.time.group = Time.limit) :
    exec .groupTimeLimit s = .next (s.setTime { s.time with stopped := true }) :=
  if_pos (by simp [hsupply, hg])

/-- Settles O47: the request goes by the BEACON place, and the count stops. -/
theorem beaconTimerAndGroupTimeLimit : Obligations.BeaconTimerAndGroupTimeLimit := by
  refine ⟨fun since s hr hmode htimer hlimit => ?_, fun s hsupply hg => exec_groupTimeLimit hsupply hg⟩
  have hdue := s.beaconDue_iff.2 ⟨hmode, since, htimer, hlimit⟩
  rw [exec_beaconTimerExpiry hr hdue, requestBeacon_of_transmits, Link.requestBeacon_eq_requested]
  · rfl
  · exact hmode

/-! ### The examination finds nothing (R124) -/

/-- With the register EMPTY, evaluating group busy changes its value alone (R121). -/
theorem evaluateGroupBusy_of_empty {s : State} (h : s.ctrl.register = none) :
    evaluateGroupBusy s = s.setCtrl { s.ctrl with groupBusy := s.ctrl.ownBusy || s.peersBusy } :=
  examineAfter_of_empty _ _ h

/-! ### A peer is heard, or falls silent (R73, R75) -/

/-- The records of a valid message of a peer that stood at `before` (R73). -/
def backRecords (before : PeerEntry) (a : Address) : List RecordBody :=
  if before.state = .lost then [.peerBack a] else []

/-- With no episode open, a peer heard changes its entry, and the ring where it was LOST (R73). -/
theorem hearPeer_of_no_episode (a : Address) {s : State} (h : s.ctrl.current = none) :
    hearPeer a s =
      (s.setPeer a { s.peer a with state := .present, lastHeard := some s.now }).setRing
        (logged s.time.group (backRecords (s.peer a) a) s.ring) := by
  by_cases hlost : (s.peer a).state = .lost
  · have hhear : hearPeer a s =
        write [.peerBack a] (s.setPeer a { s.peer a with state := .present, lastHeard := some s.now }) := by
      simp only [hearPeer, hlost]
    rw [hhear, write_of_no_episode]
    · simp [backRecords, hlost]
    · exact h
  · rw [hearPeer_of_not_lost a s hlost, backRecords, if_neg hlost]
    rfl

/-- A RESUME that finds neither hold nor mark changes nothing (R82, R130). -/
theorem applyResume_of_clear {s : State} (hg : s.ctrl.groupHold = false) (hm : s.peers.holdMark = false) :
    applyResume s = s := by
  have hmark : s.setPeers { s.peers with holdMark := false } = s := by rw [← hm]; rfl
  have hset : setGroupHold false s = s := if_pos hg
  simp only [applyResume, hmark, ite_self, hset]

/-- A peer that falls silent takes the five steps of R75, with nothing to be released. -/
theorem losePeer_of_no_episode {a : Address} {s : State} (hc : s.ctrl.current = none)
    (hr : s.ctrl.register = none) : losePeer a s = silenced a s := by
  unfold losePeer
  rw [write_of_no_episode, evaluateGroupBusy_of_empty]
  · rfl
  · exact hr
  · exact hc

theorem exec_silenceTimerExpiry {a : Address} {s : State} (hr : s.running = true)
    (hsilent : (s.peer a).silent s.now = true) :
    exec (.silenceTimerExpiry a) s = .next (settle (losePeer a s)) :=
  if_pos (by rw [hr, hsilent]; rfl)

/-- Settles O46: PEER-BACK before a RESUME with nothing to clear, and the five steps of R75. -/
theorem peersAreLostAndComeBack : Obligations.PeersAreLostAndComeBack := by
  refine ⟨fun a s hready hrx hlatch hattempt ha hown hlost hc hg hm => ?_,
    fun a heardAt s ⟨hr, hs⟩ hc hreg hpresent hheard hlimit => ?_⟩
  · have hback : hearPeer a (s.setLink s.link.judged) =
        { heard a s with ring := logged s.time.group [.peerBack a] s.ring } := by
      rw [hearPeer_of_no_episode a (s := s.setLink s.link.judged) hc, backRecords, if_pos (by exact hlost)]
      rfl
    refine (dispatch_of_hearsOut ⟨hready, hrx, hlatch, hattempt, ha, hown⟩
      (fun s1 => applyCommand .resume 0#16 (hearPeer a s1))).trans (congrArg _ ?_)
    dsimp only
    rw [hback, applyCommand, applyResume_of_clear, settle_of_no_offers]
    · exact hready.2
    · exact hg
    · exact hm
  · have hreached : (s.peer a).silenceLimit ≤ s.now - heardAt := by
      unfold PeerEntry.silenceLimit
      revert hlimit
      cases (s.peer a).interval <;> exact id
    rw [exec_silenceTimerExpiry hr ((PeerEntry.silent_iff _ _).2 ⟨hpresent, heardAt, hheard, hreached⟩),
      losePeer_of_no_episode hc hreg, settle_of_no_offers]
    exact hs

/-! ### The presence and the entry of a BEACON's sender (R73, R74) -/

/-- The records of a BEACON flagged ROLLCALL, of a peer that stood at `before` (R74). -/
def restartRecords (before : PeerEntry) (m : BeaconMessage) : List RecordBody :=
  match m.rollCall with
  | none => []
  | some c => if before.state ≠ .absent ∧ before.rollCallMark = false then [.peerRestart m.sender c] else []

/-- With no episode open, a BEACON noted changes its sender's entry, and the ring where a restart shows (R74). -/
theorem noteBeacon_of_no_episode (before : PeerEntry) (m : BeaconMessage) {s : State} (h : s.ctrl.current = none) :
    noteBeacon before m s =
      (s.setPeer m.sender ((s.peer m.sender).beacon m)).setRing
        (logged s.time.group (restartRecords before m) s.ring) := by
  unfold noteBeacon restartRecords
  cases m.rollCall with
  | none => rfl
  | some c =>
    by_cases hknown : before.state = .absent ∨ before.rollCallMark = true
    · have hquiet : ¬ (before.state ≠ .absent ∧ before.rollCallMark = false) := by
        simpa [not_and_or, or_iff_not_imp_left] using hknown
      simp only [if_pos hknown, if_neg hquiet]
      rfl
    · have hshows : before.state ≠ .absent ∧ before.rollCallMark = false := by simpa using hknown
      simp only [if_neg hknown, if_pos hshows]
      exact write_of_no_episode _ _ h

/-- What the peer monitor makes of a BEACON, before its time is taken (steps 1 and 2 of R77). -/
theorem noteBeacon_hearPeer (m : BeaconMessage) {s : State} (h : s.ctrl.current = none) :
    noteBeacon (s.peer m.sender) m (hearPeer m.sender s) =
      (s.setPeer m.sender (beaconEntry m s.now)).setRing
        (logged s.time.group (backRecords (s.peer m.sender) m.sender ++ restartRecords (s.peer m.sender) m)
          s.ring) := by
  have hnone : ((s.setPeer m.sender { s.peer m.sender with state := .present, lastHeard := some s.now }).setRing
      (logged s.time.group (backRecords (s.peer m.sender) m.sender) s.ring)).ctrl.current = none := h
  rw [hearPeer_of_no_episode _ h, noteBeacon_of_no_episode _ _ hnone, logged_append]
  simp [State.setPeer, State.setPeers, State.setRing, State.peer, PeerEntry.beacon, beaconEntry]

/-! ### A step of group time (R89, R90) -/

/-- A BEACON more than 2 µs ahead sets group time on, up to its limit (R89). -/
theorem toNat_steppedTime {g l t : Time} (h : l.toNat + 2 < t.toNat) :
    (steppedTime g l t).toNat = steppedTo g l t := by
  have hlimit : Time.limit.toNat = 2 ^ 48 - 1 := rfl
  rw [steppedTime, if_pos h, BitVec.toNat_ofNat, hlimit, steppedTo]
  exact Nat.mod_eq_of_lt (by omega)

theorem stepSize_lt_three_iff (g l t : Time) : stepSize g l t < 3 ↔ ¬ Steps g l t := by
  by_cases h : l.toNat + 2 < t.toNat
  · simp [stepSize, toNat_steppedTime h, Steps, h]
  · simp [stepSize, steppedTime, Steps, h]

theorem steppedTime_of_steps {g l t : Time} (h : Steps g l t) :
    steppedTime g l t = BitVec.ofNat 48 (steppedTo g l t) := by
  rw [← toNat_steppedTime h.1, BitVec.ofNat_toNat, BitVec.setWidth_eq]

theorem stepSize_of_steps {g l t : Time} (h : Steps g l t) : stepSize g l t = steppedTo g l t - g.toNat := by
  rw [stepSize, toNat_steppedTime h.1]

/-- With no episode open, there is no header to change (R95). -/
theorem mapHeader_of_no_episode {s : State} (h : s.ctrl.current = none) (f : Header → Header) :
    s.mapHeader f = s := by
  unfold State.mapHeader State.mapEpisode
  rw [h]

/-- A BEACON that calls for no step leaves group time as it is (R89). -/
theorem stepTime_of_no_step {a : Address} {l t : Time} {s : State} (h : ¬ Steps s.time.group l t) :
    stepTime a l t s = s :=
  if_pos ((stepSize_lt_three_iff _ _ _).2 h)

/-- With no episode open, a step changes group time and writes its TIME-STEP record at the new time (R89, R90). -/
theorem stepTime_of_step {a : Address} {l t : Time} {s : State} (hc : s.ctrl.current = none)
    (h : Steps s.time.group l t) :
    stepTime a l t s =
      { s with
        time := { s.time with
          group := BitVec.ofNat 48 (steppedTo s.time.group l t)
          stopped := s.time.stopped || decide (BitVec.ofNat 48 (steppedTo s.time.group l t) = Time.limit) }
        ring := logged (BitVec.ofNat 48 (steppedTo s.time.group l t))
          [.timeStep a (BitVec.ofNat 48 (steppedTo s.time.group l t - s.time.group.toNat))] s.ring } := by
  have hlong : ¬ steppedTo s.time.group l t - s.time.group.toNat < 3 := Nat.not_lt.2 h.2
  simp only [stepTime, if_neg hlong, steppedTime_of_steps h, stepSize_of_steps h, beq_eq_decide]
  rw [mapHeader_of_no_episode, write_of_no_episode]
  · rfl
  · exact hc
  · exact hc

/-! ### The highest number of a BEACON (R92, R94) -/

/-- The GAP record of a count of numbers skipped (R94). -/
def gapRecords (count : Nat) : List RecordBody :=
  if count = 0 then [] else [.gap (BitVec.ofNat 32 (min count 4294967294))]

/-- With no episode open and the register EMPTY, a BEACON's number raises the highest number, and a gap is recorded
(R92, R94). -/
theorem beaconNumber_of_no_episode (x : Word32) {s : State} (hc : s.ctrl.current = none)
    (hr : s.ctrl.register = none) :
    beaconNumber x s =
      (s.setCtrl { s.ctrl with
        highest := if s.ctrl.highest < x then x else s.ctrl.highest
        gapMark := s.ctrl.gapMark || decide (x.toNat - s.ctrl.highest.toNat ≠ 0) }).setRing
        (logged s.time.group (gapRecords (x.toNat - s.ctrl.highest.toNat)) s.ring) := by
  have hraise : renumberByBeacon x s = raiseHighest x s := by
    unfold renumberByBeacon
    rw [hc]
  rw [beaconNumber, hraise, raiseHighest_eq, writeGap_of_no_episode, examineAfter_of_empty]
  · rfl
  · exact hr
  · exact hc

/-! ### The statement -/

/-- A BEACON flagged GROUP-HOLD sets the hold mark in ROLLCALL (R82). -/
theorem markHold_eq (m : BeaconMessage) (s : State) :
    markHold m s =
      s.setPeers { s.peers with
        holdMark := s.peers.holdMark || (decide (s.station.mode = .rollCall) && m.groupHold) } := by
  unfold markHold
  split
  case isTrue h =>
    obtain ⟨hm, hg⟩ := h
    simp [hm, hg]
  case isFalse h =>
    have hmark : (decide (s.station.mode = .rollCall) && m.groupHold) = false := by
      simpa [not_and_or] using h
    rw [hmark, Bool.or_false]
    rfl

/-- The rest of R77 after the step of group time: number, group busy and hold mark. -/
theorem beaconRest_of_no_episode (m : BeaconMessage) {s : State} (hc : s.ctrl.current = none)
    (hr : s.ctrl.register = none) :
    markHold m (evaluateGroupBusy (beaconNumber m.highest s)) =
      { s with
        peers := { s.peers with
          holdMark := s.peers.holdMark || (decide (s.station.mode = .rollCall) && m.groupHold) }
        ctrl := { s.ctrl with
          groupBusy := s.ctrl.ownBusy || s.peersBusy
          highest := if s.ctrl.highest < m.highest then m.highest else s.ctrl.highest
          gapMark := s.ctrl.gapMark || decide (m.highest.toNat - s.ctrl.highest.toNat ≠ 0) }
        ring := logged s.time.group (gapRecords (m.highest.toNat - s.ctrl.highest.toNat)) s.ring } := by
  rw [beaconNumber_of_no_episode _ hc hr, evaluateGroupBusy_of_empty, markHold_eq]
  · rfl
  · exact hr

/-- A valid BEACON of a peer reaches the peer monitor with the latch of its start bit (R66, R77, R88). -/
theorem exec_beaconReceived {m : BeaconMessage} {latch : Time} {s : State} (h : HearsOut s m.sender)
    (hl : s.link.latch = some latch) (hi : m.interval ≠ 0#8) :
    exec (.beaconReceived m) s = .next (settle (handleBeacon m latch (s.setLink s.link.judged))) := by
  have hvalid : (m.interval != 0#8) = true := by simpa using hi
  show execBeaconReceived m s = _
  rw [execBeaconReceived, hvalid, dispatch_of_hearsOut h, hl]
  rfl

/-- Settles O44: the peer monitor notes the sender, group time takes its step or none, and number, group busy and hold
mark follow. -/
theorem beaconIsTakenWhole : Obligations.BeaconIsTakenWhole := by
  intro m latch s hears hl hi hc hr before back restart gap gapRecord n ctrl ring
  have hs : s.offers = [] := hears.1.2
  have hnoted := noteBeacon_hearPeer m (s := s.setLink s.link.judged) hc
  rw [exec_beaconReceived hears hl hi, handleBeacon, hnoted]
  refine ⟨fun hstay => ?_, fun hstep => ?_⟩
  · rw [stepTime_of_no_step, beaconRest_of_no_episode, settle_of_no_offers]
    · rfl
    · exact hs
    · exact hc
    · exact hr
    · exact hstay
  · rw [stepTime_of_step, beaconRest_of_no_episode, settle_of_no_offers]
    · rfl
    · exact hs
    · exact hc
    · exact hr
    · exact hc
    · exact hstep

end Sys2Proof.Machine
end

section
/-! PROOFS. Roll call (R31, R79, R82, R83, R86): how REJOIN begins it and how ROLL_CALL_EXPIRY ends it. -/

namespace Sys2Proof.Machine

open Sys2Proof.Machine.Claims

/-- Entry to ROLLCALL disarms the units, starts the roll-call timer, and requests a beacon (R79). -/
theorem enterRollCall_eq (s : State) :
    enterRollCall s =
      { s with
        station := { s.station with mode := .rollCall }
        units := disarmedUnits
        link := s.link.requestBeacon
        peers := { s.peers with beaconTimer := none, rollCallTimer := some s.now, holdMark := false } } :=
  requestBeacon_of_transmits (.inl rfl)

theorem exec_rejoin_of_lineFault {s : State} (h : Listens s) (hm : s.station.mode = .mute .lineFault) :
    exec .rejoin s = .next ((rejoinGroup s).result .ok) := by
  show execRejoin s = _
  rw [execRejoin, transact_of_listens h, if_pos hm]

theorem exec_rejoin_refused {s : State} (h : Listens s) (hm : s.station.mode ≠ .mute .lineFault) :
    exec .rejoin s = .next (s.result .refusedState) := by
  show execRejoin s = _
  rw [execRejoin, transact_of_listens h, if_neg hm]

/-- Arming sets the units alone (R31, R37). -/
theorem armUnits_eq (s : State) :
    armUnits s = s.setUnits (vecOf 4 (fun k => armedAs s.config.items.units[k] s.counters)) := by
  simp only [armUnits, armUnit_eq_armedAs]

/-- Arming reads and sets nothing that a change of the group hold does (R31, R131). -/
theorem armUnits_groupHoldTo (v : Bool) (s : State) :
    armUnits (groupHoldTo v s) = groupHoldTo v (armUnits s) := by
  by_cases h : s.ctrl.groupHold = v
  · have harmed : (armUnits s).ctrl.groupHold = v := h
    rw [groupHoldTo, if_pos h, groupHoldTo, if_pos harmed]
  · have harmed : (armUnits s).ctrl.groupHold ≠ v := h
    have hlink : (armUnits s).requestBeacon.link = s.requestBeacon.link := by
      rw [State.requestBeacon_link, State.requestBeacon_link]
      rfl
    rw [groupHoldTo_of_ne h, groupHoldTo_of_ne harmed, hlink]
    rfl

theorem groupHoldTo_register (v : Bool) (s : State) : (groupHoldTo v s).ctrl.register = s.ctrl.register := by
  unfold groupHoldTo; split <;> rfl

/-- With the register EMPTY, the hold mark is handed on by the group hold alone (R82, R131). -/
theorem handOnHoldMark_eq {s : State} (h : s.ctrl.register = none) :
    handOnHoldMark s =
      if s.peers.holdMark = true then groupHoldTo true (s.setPeers { s.peers with holdMark := false })
      else s.setPeers { s.peers with holdMark := false } := by
  dsimp only [handOnHoldMark]
  rw [setGroupHold_of_empty]
  exact fun _ => h

theorem examineRegister_of_empty {s : State} (h : s.ctrl.register = none) : examineRegister s = s := by
  simp [examineRegister, h]

/-- With the register EMPTY, roll call ends with the units armed and the hold mark handed on, and nothing is released
(R83, R124). -/
theorem endRollCall_of_empty {s : State} (h : s.ctrl.register = none) :
    endRollCall s = if s.peers.holdMark = true then groupHoldTo true (rollCallEnded s) else rollCallEnded s := by
  have hended : armUnits (((s.setMode .active).setPeers { s.peers with rollCallTimer := none }).setPeers
      { s.peers with rollCallTimer := none, holdMark := false }) = rollCallEnded s := armUnits_eq _
  have hhanded : armUnits (handOnHoldMark ((s.setMode .active).setPeers { s.peers with rollCallTimer := none })) =
      if s.peers.holdMark = true then groupHoldTo true (rollCallEnded s) else rollCallEnded s := by
    rw [handOnHoldMark_eq, apply_ite armUnits, armUnits_groupHoldTo, ← hended]
    · rfl
    · exact h
  refine (congrArg examineRegister hhanded).trans (examineRegister_of_empty ?_)
  split
  · exact (groupHoldTo_register _ _).trans h
  · exact h

theorem exec_rollCallExpiry {s : State} (hr : s.running = true) (hdue : s.rollCallDue = true) :
    exec .rollCallExpiry s = .next (settle (endRollCall s)) :=
  if_pos (by rw [hr, hdue]; rfl)

/-- Settles O48: the end of roll call with nothing to release, and REJOIN where its reason is LINE-FAULT. -/
theorem rollCallBeginsAndEnds : Obligations.RollCallBeginsAndEnds := by
  refine ⟨fun since s ⟨hr, hs⟩ hmode htimer hlimit hreg => ?_, fun s h => ⟨fun hm => ?_, fun hm => ?_⟩⟩
  · rw [exec_rollCallExpiry hr (s.rollCallDue_iff.2 ⟨hmode, since, htimer, hlimit⟩), endRollCall_of_empty hreg,
      settle_of_no_offers]
    split
    · exact (groupHoldTo_offers _ _).trans hs
    · exact hs
  · rw [exec_rejoin_of_lineFault h hm, rejoinGroup, enterRollCall_eq]
    rfl
  · exact exec_rejoin_refused h hm

end Sys2Proof.Machine
end

section
/-! PROOFS. Group time, local elapsed time and the highest episode number never fall (R87, R93): capture and units leave
the clocks and raise the number at most, a BEACON steps group time up, and HARD and SOFT restarts keep all three. -/

namespace Sys2Proof.Machine

open Sys2Proof.Machine.Claims

/-- From `s` to `t` group time and the highest number have not fallen, and local elapsed time stands. -/
structure NeverFalls (s t : State) : Prop where
  group : s.time.group ≤ t.time.group
  elapsed : t.time.elapsed = s.time.elapsed
  highest : s.ctrl.highest ≤ t.ctrl.highest

namespace NeverFalls

/-- The clocks stand, and the highest number is raised at most. -/
theorem of_time {s t : State} (ht : t.time = s.time) (hh : s.ctrl.highest ≤ t.ctrl.highest) : NeverFalls s t :=
  ⟨ht ▸ BitVec.le_refl _, ht ▸ rfl, hh⟩

theorem of_eq {s t : State} (ht : t.time = s.time) (hh : t.ctrl.highest = s.ctrl.highest) : NeverFalls s t :=
  of_time ht (hh ▸ BitVec.le_refl _)

theorem refl (s : State) : NeverFalls s s := of_eq rfl rfl

theorem trans {s t u : State} (h : NeverFalls s t) (k : NeverFalls t u) : NeverFalls s u :=
  ⟨BitVec.le_trans h.group k.group, k.elapsed.trans h.elapsed, BitVec.le_trans h.highest k.highest⟩

/-- An event that first changes neither clocks nor highest number. -/
theorem after {s u t : State} (h : NeverFalls u t) (ht : u.time = s.time) (hh : u.ctrl.highest = s.ctrl.highest) :
    NeverFalls s t := (of_eq ht hh).trans h

end NeverFalls

theorem UnitsFrame.neverFalls {s t : State} (h : UnitsFrame s t) : NeverFalls s t := .of_time h.time h.highest

theorem CaptureFrame.neverFalls {s t : State} (h : CaptureFrame s t) : NeverFalls s t := h.toUnits.neverFalls

theorem HoldFrame.neverFalls {s t : State} (h : HoldFrame s t) : NeverFalls s t := .of_time h.time h.highest

/-- Taking the offers of an event raises the highest number at most (R34, R98). -/
theorem NeverFalls.settle {s t : State} (h : NeverFalls s t) : NeverFalls s (settle t) :=
  h.trans (unitsFrame_settle t).neverFalls

/-! ### Event lines and VETO -/

theorem neverFalls_qualifyLine (n : Fin 16) (l : Level) (s : State) : NeverFalls s (qualifyLine n l s) := by
  unfold qualifyLine
  dsimp only
  split
  · exact .of_eq rfl rfl
  · exact (captureFrame_write _ _).neverFalls.after rfl rfl

theorem neverFalls_moveLine (n : Fin 16) (l : Level) (s : State) : NeverFalls s (moveLine n l s) := by
  unfold moveLine
  dsimp only
  split
  · split
    · exact .of_eq rfl rfl
    · split
      · exact neverFalls_qualifyLine n l s
      · exact .of_eq rfl rfl
  · split <;> exact .of_eq rfl rfl

theorem neverFalls_qualifyVeto (l : Level) (s : State) : NeverFalls s (qualifyVeto l s) :=
  (captureFrame_write _ _).neverFalls.after rfl rfl

theorem neverFalls_moveVeto (l : Level) (s : State) : NeverFalls s (moveVeto l s) := by
  unfold moveVeto
  dsimp only
  split <;> split <;> exact .of_eq rfl rfl

/-! ### The held trigger register and group commands -/

theorem neverFalls_expireRegister (s : State) : NeverFalls s (expireRegister s) := by
  unfold expireRegister
  split
  · exact .refl s
  · exact (captureFrame_suppress _ _ _).neverFalls.after rfl rfl

theorem neverFalls_handOnHoldMark (s : State) : NeverFalls s (handOnHoldMark s) :=
  (handOnHoldMark_holdFrame s).neverFalls.after rfl rfl

theorem neverFalls_clearCounters (mask : Mask) (s : State) : NeverFalls s (clearCounters mask s) := by
  unfold clearCounters
  dsimp only
  split <;> exact .of_eq rfl rfl

theorem neverFalls_applyResume (s : State) : NeverFalls s (applyResume s) := by
  refine (holdFrame_setGroupHold false _).neverFalls.after ?_ ?_ <;> split <;> rfl

theorem neverFalls_applyCommand (c : GroupCommand) (mask : Mask) (s : State) :
    NeverFalls s (applyCommand c mask s) := by
  cases c with
  | clearCounters => exact neverFalls_clearCounters mask s
  | hold => exact (holdFrame_setGroupHold true s).neverFalls
  | resume => exact neverFalls_applyResume s

/-! ### Station states -/

theorem neverFalls_requestBeacon (s : State) : NeverFalls s s.requestBeacon := (captureFrame_requestBeacon s).neverFalls

theorem neverFalls_enterRollCall (s : State) : NeverFalls s (enterRollCall s) := by
  rw [enterRollCall_eq]
  exact .of_eq rfl rfl

theorem neverFalls_armUnits (s : State) : NeverFalls s (armUnits s) := .of_eq rfl rfl

theorem neverFalls_enterMute (r : MuteReason) (s : State) : NeverFalls s (enterMute r s) := by
  have hentry : NeverFalls s (muteEntry r s) := .of_eq rfl rfl
  have hmark := hentry.trans (neverFalls_handOnHoldMark _)
  unfold enterMute
  dsimp only
  refine .trans ?_ (captureFrame_claimOvertakenByMute _).neverFalls
  split <;> split
  · exact hmark
  · exact hentry
  · exact hmark.trans (neverFalls_armUnits _)
  · exact hentry.trans (neverFalls_armUnits _)

theorem neverFalls_enterByAddress (s : State) : NeverFalls s (enterByAddress s) := by
  unfold enterByAddress
  split
  · exact neverFalls_enterMute _ s
  · exact neverFalls_enterRollCall s

theorem neverFalls_endRollCall (s : State) : NeverFalls s (endRollCall s) := by
  refine .trans ?_ (captureFrame_examineRegister _).neverFalls
  exact ((neverFalls_handOnHoldMark _).trans (neverFalls_armUnits _)).after rfl rfl

theorem neverFalls_takeOwnAddress (s : State) : NeverFalls s (takeOwnAddress s) := by
  unfold takeOwnAddress
  split
  · exact neverFalls_enterMute _ s
  · exact .refl s

theorem neverFalls_failAttempt (s : State) : NeverFalls s (failAttempt s) := by
  unfold failAttempt
  dsimp only
  split
  · exact (neverFalls_enterMute _ _).after rfl rfl
  · exact .of_eq rfl rfl

theorem neverFalls_reportSuccess (a : Attempt) (s : State) : NeverFalls s (reportSuccess a s) := by
  unfold reportSuccess
  split
  · split
    · exact .refl s
    · exact (captureFrame_announceClaim s).neverFalls
  · exact neverFalls_applyCommand _ _ s
  · exact .of_eq rfl rfl

/-! ### Peers and BEACONs -/

theorem neverFalls_hearPeer (a : Address) (s : State) : NeverFalls s (hearPeer a s) := by
  unfold hearPeer
  dsimp only
  split
  · exact .of_eq rfl rfl
  · exact .of_eq rfl rfl
  · exact (captureFrame_write _ _).neverFalls.after rfl rfl

theorem neverFalls_noteBeacon (before : PeerEntry) (m : BeaconMessage) (s : State) :
    NeverFalls s (noteBeacon before m s) := by
  unfold noteBeacon
  dsimp only
  split
  · exact .of_eq rfl rfl
  · split
    · exact .of_eq rfl rfl
    · exact (captureFrame_write _ _).neverFalls.after rfl rfl

/-- A step raises group time, and its record the highest number at most (R89, R90). -/
theorem neverFalls_stepTime (a : Address) (l x : Time) (s : State) : NeverFalls s (stepTime a l x s) := by
  unfold stepTime
  dsimp only
  split
  · exact .refl s
  · refine NeverFalls.trans ?_ ((captureFrame_mapHeader _ _).trans (captureFrame_write _ _)).neverFalls
    exact ⟨le_steppedTime _ l x, rfl, BitVec.le_refl _⟩

theorem neverFalls_handleBeacon (m : BeaconMessage) (l : Time) (s : State) : NeverFalls s (handleBeacon m l s) := by
  have hnoted := (neverFalls_hearPeer m.sender s).trans (neverFalls_noteBeacon (s.peer m.sender) m _)
  have hstepped := hnoted.trans (neverFalls_stepTime m.sender l m.time _)
  have hnumber := hstepped.trans (captureFrame_beaconNumber m.highest _).neverFalls
  have hbusy := hnumber.trans (captureFrame_evaluateGroupBusy _).neverFalls
  rw [handleBeacon, markHold_eq]
  exact hbusy.trans (.of_eq rfl rfl)

theorem neverFalls_losePeer (a : Address) (s : State) : NeverFalls s (losePeer a s) :=
  have hlost : NeverFalls s (write [.peerLost a] (s.setPeer a (s.peer a).lose)) :=
    (captureFrame_write _ _).neverFalls.after rfl rfl
  hlost.trans ((captureFrame_raise _ _).trans (captureFrame_evaluateGroupBusy _)).neverFalls

/-! ### Restarts (R87, R93) -/

theorem neverFalls_hardRestart (sa : Address) (s : State) : NeverFalls s (hardRestart sa s) :=
  (captureFrame_closeCurrent .cutByRestart s).neverFalls.trans (.of_eq rfl rfl)

theorem neverFalls_vetoOnAfterRestart (s : State) : NeverFalls s (vetoOnAfterRestart s) := by
  unfold vetoOnAfterRestart
  split
  · exact (captureFrame_writeOne s _).neverFalls
  · exact .refl s

theorem neverFalls_softRestart (sa : Address) (s : State) : NeverFalls s (softRestart sa s) := by
  unfold softRestart
  refine .trans ?_ ((neverFalls_vetoOnAfterRestart _).trans (neverFalls_enterByAddress _))
  exact (captureFrame_closeCurrent .cutByRestart s).neverFalls.trans (.of_eq rfl rfl)

/-! ### What a command answers -/

/-- In every next state that an outcome gives, nothing of `s` has fallen. -/
def AnswersNoFall (s : State) (o : Host.Outcome State Fault Refusal) : Prop :=
  ∀ t, o = .next t → NeverFalls s t

theorem NeverFalls.answers {s t : State} (h : NeverFalls s t) : AnswersNoFall s (.next t) := by
  rintro _ ⟨⟩
  exact h

/-- An event that happens under a condition, and otherwise leaves the state as it is. -/
theorem NeverFalls.answers_if {c : Prop} [Decidable c] {s t : State} (h : NeverFalls s t) :
    AnswersNoFall s (if c then .next t else .next s) := by
  split
  · exact h.answers
  · exact (NeverFalls.refl s).answers

theorem NeverFalls.answers_transact {f : State → State} {s : State} (h : NeverFalls s (f s)) :
    AnswersNoFall s (transact f s) := by
  rw [transact_eq]
  split
  · exact h.answers
  · exact NeverFalls.answers (.of_eq rfl rfl)

theorem answersNoFall_dispatch {fieldsValid : Bool} {a : Address} {owner : State → State} {s : State}
    (h : ∀ u, NeverFalls u (owner u)) : AnswersNoFall s (dispatch fieldsValid a owner s) := by
  have hjudged : NeverFalls s (s.setLink s.link.judged) := .of_eq rfl rfl
  unfold dispatch
  dsimp only
  split
  · split
    · exact hjudged.answers
    · split
      · exact (hjudged.trans (neverFalls_takeOwnAddress _)).settle.answers
      · exact (hjudged.trans (h _)).settle.answers
  · exact (NeverFalls.refl s).answers

theorem NeverFalls.answer {s t : State} (h : NeverFalls s t) (r : Response) : NeverFalls s (t.answer r) :=
  h.trans (.of_eq rfl rfl)

theorem NeverFalls.result {s t : State} (h : NeverFalls s t) (r : Result) : NeverFalls s (t.result r) :=
  h.answer _

theorem neverFalls_answer (s : State) (r : Response) : NeverFalls s (s.answer r) := .of_eq rfl rfl

theorem neverFalls_result (s : State) (r : Result) : NeverFalls s (s.result r) := .of_eq rfl rfl

/-! ### Commands of lines, units and the group line -/

theorem answersNoFall_linePinChange (n : Fin 16) (l : Level) (s : State) :
    AnswersNoFall s (execLinePinChange n l s) := by
  unfold execLinePinChange
  split
  · exact (NeverFalls.refl s).answers
  · split
    · exact (neverFalls_moveLine n l s).settle.answers
    · exact NeverFalls.answers (.of_eq rfl rfl)

theorem answersNoFall_vetoPinChange (l : Level) (s : State) : AnswersNoFall s (execVetoPinChange l s) := by
  unfold execVetoPinChange
  split
  · exact (NeverFalls.refl s).answers
  · split
    · exact (neverFalls_moveVeto l s).answers
    · exact NeverFalls.answers (.of_eq rfl rfl)

theorem answersNoFall_windowExpiry (k : Fin 4) (s : State) : AnswersNoFall s (execWindowExpiry k s) := by
  unfold execWindowExpiry
  split
  · split
    · exact (NeverFalls.refl s).answers
    · exact (unitsFrame_expireWindow k _ s).neverFalls.settle.answers
  · exact (NeverFalls.refl s).answers

theorem answersNoFall_attemptStart (s : State) : AnswersNoFall s (execAttemptStart s) := by
  unfold execAttemptStart
  split
  · exact (NeverFalls.refl s).answers
  · exact NeverFalls.answers (.of_eq rfl rfl)

theorem answersNoFall_attemptFailure (e : BitError) (s : State) : AnswersNoFall s (execAttemptFailure e s) := by
  have hbroken : NeverFalls s (s.setLink (s.link.breakOff e)) := .of_eq rfl rfl
  unfold execAttemptFailure
  dsimp only
  split
  · split
    · exact (hbroken.trans (neverFalls_enterMute _ _)).settle.answers
    · exact (hbroken.trans (neverFalls_failAttempt _)).settle.answers
  · exact (NeverFalls.refl s).answers

theorem answersNoFall_attemptSuccess (s : State) : AnswersNoFall s (execAttemptSuccess s) := by
  unfold execAttemptSuccess
  split
  · exact (NeverFalls.refl s).answers
  · exact NeverFalls.answers_if (.settle (.after (neverFalls_reportSuccess _ _) rfl rfl))

/-! ### Commands of RESET and the control port -/

theorem answersNoFall_resetLow (s : State) : AnswersNoFall s (execResetLow s) := by
  unfold execResetLow
  split <;> exact NeverFalls.answers (.of_eq rfl rfl)

/-- A release of RESET that is no POWER restart keeps the clocks and the highest number (R87, R93). -/
theorem answersNoFall_hardRestart {s : State} (h : s.power.powerOnRelease = false) (sa : Address) :
    AnswersNoFall s (execHardRestart sa s) := by
  unfold execHardRestart
  rw [h]
  split
  · exact (neverFalls_hardRestart sa s).answers
  · exact NeverFalls.answers (.of_eq rfl rfl)

theorem neverFalls_applyWrite (i : Item) (x : Settings) (s : State) : NeverFalls s (applyWrite i x s) := by
  unfold applyWrite
  dsimp only
  split
  · exact (captureFrame_evaluateBusy _).neverFalls.after rfl rfl
  · exact .of_eq rfl rfl

theorem answersNoFall_writeConfig (item index : Byte) (value : BitVec 56) (s : State) :
    AnswersNoFall s (execWriteConfig item index value s) := by
  apply NeverFalls.answers_transact
  split
  · exact neverFalls_result s _
  · split
    · exact neverFalls_result s _
    · split
      · exact neverFalls_result s _
      · exact (neverFalls_applyWrite _ _ s).result _

theorem answersNoFall_readConfig (item index : Byte) (s : State) : AnswersNoFall s (execReadConfig item index s) := by
  apply NeverFalls.answers_transact
  split
  · exact neverFalls_result s _
  · exact neverFalls_answer s _

theorem neverFalls_closeWindow (s : State) : NeverFalls s (closeWindow s) :=
  (neverFalls_enterByAddress _).after rfl rfl

theorem answersNoFall_closeConfig (s : State) : AnswersNoFall s (execCloseConfig s) := by
  apply NeverFalls.answers_transact
  split
  · exact neverFalls_result s _
  · split
    · exact neverFalls_answer s _
    · exact (neverFalls_closeWindow s).result _

theorem answersNoFall_readPeer (a : Byte) (s : State) : AnswersNoFall s (execReadPeer a s) := by
  apply NeverFalls.answers_transact
  dsimp only
  split
  · exact neverFalls_result s _
  · split
    · exact neverFalls_result s _
    · exact neverFalls_answer s _

theorem answersNoFall_readHistoryNext (n : Byte) (s : State) : AnswersNoFall s (execReadHistoryNext n s) := by
  apply NeverFalls.answers_transact
  split
  · exact .of_eq rfl rfl
  · exact neverFalls_result s _

theorem answersNoFall_readRecords (n : Byte) (s : State) : AnswersNoFall s (execReadRecords n s) := by
  apply NeverFalls.answers_transact
  split
  · exact .of_eq rfl rfl
  · exact neverFalls_result s _

theorem neverFalls_releaseSlot (i : Fin 8) (e : Episode) (s : State) : NeverFalls s (releaseSlot i e s) :=
  (captureFrame_evaluateBusy _).neverFalls.after rfl rfl

theorem answersNoFall_releaseEpisode (slot : Byte) (s : State) : AnswersNoFall s (execReleaseEpisode slot s) := by
  apply NeverFalls.answers_transact
  split
  · exact neverFalls_result s _
  · split
    · exact neverFalls_result s _
    · exact neverFalls_result s _
    · exact ((neverFalls_releaseSlot _ _ s).result _).settle

theorem answersNoFall_softwareTrigger (s : State) : AnswersNoFall s (execSoftwareTrigger s) := by
  have hrequest := (captureFrame_request .software s.time.group s).neverFalls
  apply NeverFalls.answers_transact
  split
  · exact neverFalls_result s _
  · rename_i heq
    rw [heq] at hrequest
    exact (hrequest.answer _).settle

theorem answersNoFall_closeEpisode (s : State) : AnswersNoFall s (execCloseEpisode s) := by
  apply NeverFalls.answers_transact
  split
  · exact neverFalls_result s _
  · split
    · exact ((captureFrame_closeEpisode .cutByHost s).neverFalls.answer _).settle
    · exact neverFalls_result s _

theorem answersNoFall_setLocalHold (v : Byte) (s : State) : AnswersNoFall s (execSetLocalHold v s) := by
  apply NeverFalls.answers_transact
  split
  · exact ((holdFrame_setLocalHold _ s).neverFalls.answer _).settle
  · exact neverFalls_result s _

theorem answersNoFall_sendGroupCommand (code : Byte) (mask : Mask) (s : State) :
    AnswersNoFall s (execSendGroupCommand code mask s) := by
  apply NeverFalls.answers_transact
  split
  · exact neverFalls_result s _
  · split
    · exact neverFalls_result s _
    · split
      · exact neverFalls_result s _
      · exact .of_eq rfl rfl

theorem neverFalls_rejoinGroup (s : State) : NeverFalls s (rejoinGroup s) :=
  (neverFalls_enterRollCall _).after rfl rfl

theorem answersNoFall_rejoin (s : State) : AnswersNoFall s (execRejoin s) := by
  apply NeverFalls.answers_transact
  split
  · exact (neverFalls_rejoinGroup s).result _
  · exact neverFalls_result s _

theorem answersNoFall_restart (sa : Address) (s : State) : AnswersNoFall s (execRestart sa s) := by
  apply NeverFalls.answers_transact
  split
  · exact neverFalls_result s _
  · exact (neverFalls_softRestart sa s).trans (.of_eq rfl rfl)

/-! ### The statement -/

/-- Every command but a POWER restart and a loss of supply. -/
theorem answersNoFall_exec {c : Instr} {s : State} (hpower : ∀ a, c ≠ .powerRestart a) (hsupply : c ≠ .supplyLoss)
    (hrelease : ∀ a, c = .hardRestart a → s.power.powerOnRelease = false) : AnswersNoFall s (exec c s) := by
  cases c with
  | linePinChange n l => exact answersNoFall_linePinChange n l s
  | qualificationTimerExpiry n => exact (neverFalls_qualifyLine n _ s).settle.answers_if
  | vetoPinChange l => exact answersNoFall_vetoPinChange l s
  | vetoQualificationExpiry => exact (neverFalls_qualifyVeto _ s).settle.answers_if
  | windowExpiry k => exact answersNoFall_windowExpiry k s
  | postTimeExpiry => exact (captureFrame_closeEpisode .timed s).neverFalls.settle.answers_if
  | holdLimitExpiry => exact (neverFalls_expireRegister s).settle.answers_if
  | lineFree => exact NeverFalls.answers_if (.of_eq rfl rfl)
  | attemptStart => exact answersNoFall_attemptStart s
  | arbitrationLoss => exact NeverFalls.answers_if (.of_eq rfl rfl)
  | attemptFailure e => exact answersNoFall_attemptFailure e s
  | attemptSuccess => exact answersNoFall_attemptSuccess s
  | messageAbandon => exact NeverFalls.answers_if (.of_eq rfl rfl)
  | messageInvalid => exact NeverFalls.answers_if (.of_eq rfl rfl)
  | ownAddressMessage => exact NeverFalls.answers_if (.settle (.after (neverFalls_takeOwnAddress _) rfl rfl))
  | triggerReceived m =>
    exact answersNoFall_dispatch fun u => (neverFalls_hearPeer m.sender u).trans
      ((captureFrame_controllerTrigger m _).trans (captureFrame_bring _ _)).neverFalls
  | beaconReceived m => exact answersNoFall_dispatch (neverFalls_handleBeacon m _)
  | clearCountersReceived a mask =>
    exact answersNoFall_dispatch fun u => (neverFalls_hearPeer a u).trans (neverFalls_applyCommand _ _ _)
  | holdReceived a =>
    exact answersNoFall_dispatch fun u => (neverFalls_hearPeer a u).trans (neverFalls_applyCommand _ _ _)
  | resumeReceived a =>
    exact answersNoFall_dispatch fun u => (neverFalls_hearPeer a u).trans (neverFalls_applyCommand _ _ _)
  | silenceTimerExpiry a => exact (neverFalls_losePeer a s).settle.answers_if
  | beaconTimerExpiry => exact NeverFalls.answers_if ((neverFalls_requestBeacon _).after rfl rfl)
  | rollCallExpiry => exact (neverFalls_endRollCall s).settle.answers_if
  | groupTimeLimit => exact NeverFalls.answers_if ⟨BitVec.le_refl _, rfl, BitVec.le_refl _⟩
  | powerRestart sa => exact absurd rfl (hpower sa)
  | supplyLoss => exact absurd rfl hsupply
  | resetLow => exact answersNoFall_resetLow s
  | hardRestart sa => exact answersNoFall_hardRestart (hrelease sa rfl) sa
  | writeConfig item index value => exact answersNoFall_writeConfig item index value s
  | readConfig item index => exact answersNoFall_readConfig item index s
  | closeConfig => exact answersNoFall_closeConfig s
  | readPeer a => exact answersNoFall_readPeer a s
  | readHistoryNext n => exact answersNoFall_readHistoryNext n s
  | readRecords n => exact answersNoFall_readRecords n s
  | releaseEpisode slot => exact answersNoFall_releaseEpisode slot s
  | softwareTrigger => exact answersNoFall_softwareTrigger s
  | closeEpisode => exact answersNoFall_closeEpisode s
  | setLocalHold v => exact answersNoFall_setLocalHold v s
  | sendGroupCommand code mask => exact answersNoFall_sendGroupCommand code mask s
  | rejoin => exact answersNoFall_rejoin s
  | restart sa => exact answersNoFall_restart sa s
  | startBitReceived => exact NeverFalls.answers_if (.of_eq rfl rfl)
  | status | readCounters | readHistory | listEpisodes | selectEpisode | readHeader | ackAttention
  | shortTransaction | unknownCommand =>
    apply NeverFalls.answers_transact
    exact .of_eq rfl rfl

/-- Settles O7: no command but those excepted lowers a clock or the highest number. -/
theorem clocksAndNumberNeverFall : Obligations.ClocksAndNumberNeverFall := by
  intro c s t hpower hsupply hrelease hexec
  obtain ⟨hgroup, helapsed, hhighest⟩ := answersNoFall_exec hpower hsupply hrelease t hexec
  exact ⟨hgroup, helapsed, hhighest⟩

end Sys2Proof.Machine
end

section
/-! PROOFS. What one event can do to the episodes, as elementary changes: a relation between states that holds of each of
them, and of what leaves store, open episode and highest number alone, holds of every step. -/

namespace Sys2Proof.Machine

/-! ### The open episode (R95) -/

/-- An episode is open where the controller holds one and its slot is FILLING. -/
theorem openEpisode_eq_some_iff {s : State} {e : Episode} :
    s.openEpisode = some e ↔ ∃ o, s.ctrl.current = some o ∧ s.store.slot o.slot = .filling e := by
  unfold State.openEpisode
  split
  case h_1 hc => simp [hc]
  case h_2 o hc => rw [hc]; split <;> simp_all

theorem openEpisode_of_no_episode {s : State} (h : s.ctrl.current = none) : s.openEpisode = none := by
  simp [State.openEpisode, h]

/-- The last case of a match on the controller's episode and its slot is that of no open episode. -/
theorem openEpisode_eq_none {s : State} (h : ∀ o e, s.ctrl.current = some o → s.openEpisode = some e → False) :
    s.openEpisode = none := by
  refine Option.eq_none_iff_forall_ne_some.2 fun e he => ?_
  obtain ⟨o, ho, -⟩ := openEpisode_eq_some_iff.1 he
  exact h o e ho he

/-! ### The elementary changes -/

/-- From `s` to `t` the store, the open episode as the controller holds it, and the highest number stand. -/
def SameEpisodes (s t : State) : Prop :=
  t.store = s.store ∧ t.ctrl.current = s.ctrl.current ∧ t.ctrl.highest = s.ctrl.highest

/-- The relation holds of every elementary change that an event makes to the episodes, and of their sequence. -/
structure EpisodeClosed (R : State → State → Prop) : Prop where
  trans : ∀ {s t u}, R s t → R t u → R s u
  aside : ∀ {s t}, SameEpisodes s t → R s t
  writeOne : ∀ s b, R s (writeOne s b)
  close : ∀ e s, R s (closeCurrent e s)
  openOriginator : ∀ c cs ov i s, s.openEpisode = none → s.ctrl.highest ≠ Word32.limit →
    s.store.lowestFree = some i → s.store.freeEntries ≠ 0 →
    R s (openIn (originatorOpening (s.ctrl.highest + 1#32) s.station.address c cs ov) i
      (s.setCtrl { s.ctrl with highest := s.ctrl.highest + 1#32 }))
  openLocal : ∀ c x i s, s.openEpisode = none → s.store.lowestFree = some i → s.store.freeEntries ≠ 0 →
    R s (openIn (localOpening s.ctrl.highest c x) i s)
  addCause : ∀ c s, R s (s.mapHeader (fun h => h.addCause c))
  timeStepped : ∀ s, R s (s.mapHeader (fun h => { h with flags := { h.flags with timeStepped := true } }))
  trigger : ∀ m s, R s (handleTrigger (triggerCase m.number s) m s)
  beacon : ∀ x s, R s (renumberByBeacon x s)
  announce : ∀ s, R s (announceClaim s)
  overtake : ∀ s, R s (claimOvertakenByMute s)
  release : ∀ i e s, s.store.slot i = .complete e → R s (s.setStore (s.store.release i e))
  select : ∀ b s, R s (s.setStore (s.store.select b).1)
  readRecords : ∀ n s, R s (s.setStore (s.store.readRecords n).1)
  deselect : ∀ s, R s (s.setStore { s.store with selection := none })
  powerOn : ∀ {s t}, t.store = emptyStore → t.ctrl = powerOnController → R s t

namespace EpisodeClosed

variable {R : State → State → Prop} (k : EpisodeClosed R)

include k

theorem refl (s : State) : R s s := k.aside ⟨rfl, rfl, rfl⟩

/-- An event that first leaves the episodes alone. -/
theorem after {s u t : State} (h : R u t) (hu : SameEpisodes s u) : R s t := k.trans (k.aside hu) h

/-- An event that at last leaves the episodes alone. -/
theorem before {s u t : State} (h : R s u) (ht : SameEpisodes u t) : R s t := k.trans h (k.aside ht)

/-! ### Capture -/

theorem updateBusy (s : State) : R s (updateBusy s) :=
  k.aside ⟨updateBusy_store s, updateBusy_current s, updateBusy_highest s⟩

theorem riseOpen (s : State) : R s s.riseOpen :=
  k.aside ⟨s.riseOpen_store, congrArg _ s.riseOpen_ctrl, congrArg _ s.riseOpen_ctrl⟩

theorem requestBeacon (s : State) : R s s.requestBeacon :=
  k.aside ⟨s.requestBeacon_store, congrArg _ s.requestBeacon_ctrl, congrArg _ s.requestBeacon_ctrl⟩

theorem writeAll (bs : List RecordBody) (s : State) : R s (writeAll bs s) := by
  induction bs generalizing s with
  | nil => exact k.refl s
  | cons b bs ih => exact k.trans (k.writeOne s b) (ih _)

theorem suppressAll (f : SuppressedFlag) (cs : List OwnCause) (s : State) : R s (suppressAll f cs s) := by
  cases cs with
  | nil => exact k.refl s
  | cons c cs => exact k.before (k.writeAll _ s) ⟨rfl, rfl, rfl⟩

theorem originate (c : OwnCause × Time) (cs : List (OwnCause × Time)) (ov : Bool) {s : State}
    (h : s.openEpisode = none) : R s (originate c cs ov s).1 := by
  rcases originate_cases c cs ov s with ⟨f, heq⟩ | ⟨i, s2, hlimit, hfree, hentries, hs2, heq⟩
  · rw [heq]; exact k.suppressAll f ((c :: cs).map Prod.fst) s
  · rw [heq, hs2]
    exact k.before (k.trans (k.openOriginator c cs ov i s h hlimit hfree hentries) (k.riseOpen _)) ⟨rfl, rfl, rfl⟩

theorem examineRegister (s : State) : R s (examineRegister s) := by
  rcases examineRegister_cases s with h | ⟨r, _, _, hc, _, ⟨_, h⟩ | ⟨c, cs, _, h⟩⟩ <;> rw [h]
  · exact k.refl s
  · exact k.aside ⟨rfl, rfl, rfl⟩
  · exact k.after (k.originate c cs _ (openEpisode_of_no_episode hc)) ⟨rfl, rfl, rfl⟩

theorem examineAfter {s t : State} (h : R s t) (before : State) : R s (examineAfter before t) := by
  rcases examineAfter_cases before t with heq | heq <;> rw [heq]
  · exact h
  · exact k.trans h (k.examineRegister t)

theorem write (bs : List RecordBody) (s : State) : R s (write bs s) := k.examineAfter (k.writeAll bs s) s

theorem suppress (f : SuppressedFlag) (cs : List OwnCause) (s : State) : R s (suppress f cs s) :=
  k.examineAfter (k.suppressAll f cs s) s

theorem closeEpisode (e : EndStatus) (s : State) : R s (closeEpisode e s) := k.examineAfter (k.close e s) s

theorem evaluateGroupBusy (s : State) : R s (evaluateGroupBusy s) := by
  apply k.examineAfter
  exact k.aside ⟨rfl, rfl, rfl⟩

theorem evaluateBusy (s : State) : R s (evaluateBusy s) := k.examineAfter (k.updateBusy s) s

/-! ### Requests -/

theorem holdRequest (c : OwnCause) (x : Time) (s : State) : R s (holdRequest c x s).1 := by
  unfold Machine.holdRequest
  split
  · exact k.suppress _ _ s
  · split
    · exact k.aside ⟨rfl, rfl, rfl⟩
    · split <;> exact k.aside ⟨rfl, rfl, rfl⟩

theorem requestLocal (c : OwnCause) (x : Time) {s : State} (h : s.openEpisode = none) :
    R s (Machine.openLocal c x s).1 := by
  unfold Machine.openLocal
  split
  · exact k.suppress _ _ s
  · split
    · exact k.suppress _ _ s
    · exact k.trans (k.openLocal c x _ s h ‹_› ‹_›) (k.riseOpen _)

theorem requestNoEpisode (c : OwnCause) (x : Time) {s : State} (h : s.openEpisode = none) :
    R s (requestNoEpisode c x s).1 := by
  unfold Machine.requestNoEpisode
  split
  · exact k.requestLocal c x h
  · split
    · exact k.holdRequest c x s
    · exact k.originate _ _ _ h

theorem request (c : OwnCause) (x : Time) (s : State) : R s (request c x s).1 := by
  unfold Machine.request
  split
  · exact k.refl s
  · split
    · exact k.suppress _ _ s
    · split
      · exact k.addCause _ s
      · exact k.requestNoEpisode c x (openEpisode_eq_none ‹_›)

/-! ### Messages, holds and the register -/

theorem controllerTrigger (m : TriggerMessage) (s : State) : R s (controllerTrigger m s) :=
  k.examineAfter (k.trigger m s) s

theorem writeGap (n : Nat) (s : State) : R s (writeGap n s) := by
  unfold Machine.writeGap
  split
  · exact k.refl s
  · exact k.after (k.writeOne _ _) ⟨rfl, rfl, rfl⟩

theorem beaconNumber (x : Word32) (s : State) : R s (beaconNumber x s) :=
  k.examineAfter (k.trans (k.beacon x s) (k.writeGap _ _)) s

theorem discardRegister (s : State) : R s (discardRegister s) := by
  unfold Machine.discardRegister
  split
  · exact k.refl s
  · exact k.after (k.suppress _ _ _) ⟨rfl, rfl, rfl⟩

theorem expireRegister (s : State) : R s (expireRegister s) := by
  unfold Machine.expireRegister
  split
  · exact k.refl s
  · exact k.after (k.suppress _ _ _) ⟨rfl, rfl, rfl⟩

theorem holdChanged (v : Bool) (s : State) : R s (holdChanged v s) := by
  have hflag : ∀ u : State, R u (u.raise .hold).requestBeacon := fun u =>
    k.after (k.requestBeacon _) ⟨rfl, rfl, rfl⟩
  cases v with
  | false => exact hflag s
  | true => exact k.trans (k.discardRegister s) (hflag _)

theorem setLocalHold (v : Bool) (s : State) : R s (setLocalHold v s) := by
  unfold Machine.setLocalHold
  split
  · exact k.refl s
  · exact k.after (k.holdChanged v _) ⟨rfl, rfl, rfl⟩

theorem setGroupHold (v : Bool) (s : State) : R s (setGroupHold v s) := by
  unfold Machine.setGroupHold
  split
  · exact k.refl s
  · exact k.after (k.holdChanged v _) ⟨rfl, rfl, rfl⟩

theorem handOnHoldMark (s : State) : R s (handOnHoldMark s) := by
  unfold Machine.handOnHoldMark
  dsimp only
  split
  · exact k.after (k.setGroupHold true _) ⟨rfl, rfl, rfl⟩
  · exact k.aside ⟨rfl, rfl, rfl⟩

/-! ### Units -/

theorem bring (o : Offer) (s : State) : R s (s.bring o) := k.aside ⟨rfl, rfl, rfl⟩

theorem fire (j : Fin 4) (s : State) : R s (fire j s) := k.trans (k.write _ s) (k.request _ _ _)

theorem settleUnit (j : Fin 4) (r : ArmedUnit × Bool) (s : State) : R s (settleUnit j r s) := by
  unfold Machine.settleUnit
  dsimp only
  split
  · split
    · exact k.after (k.fire j _) ⟨rfl, rfl, rfl⟩
    · exact k.aside ⟨rfl, rfl, rfl⟩
  · exact k.aside ⟨rfl, rfl, rfl⟩

theorem unitTakes (o : Offer) (s : State) (j : Fin 4) : R s (unitTakes o s j) := by
  unfold Machine.unitTakes
  split
  · exact k.refl s
  · exact k.settleUnit j _ s

theorem takeOfferIn (order : List (Fin 4)) (o : Offer) (s : State) : R s (takeOfferIn order o s) := by
  unfold Machine.takeOfferIn
  induction order generalizing s with
  | nil => exact k.refl s
  | cons j order ih => exact k.trans (k.unitTakes o s j) (ih _)

theorem takeOffer (o : Offer) (s : State) : R s (takeOffer o s) := k.after (k.takeOfferIn _ o _) ⟨rfl, rfl, rfl⟩

theorem takeOffers (n : Nat) (s : State) : R s (takeOffers n s) := by
  induction n generalizing s with
  | zero => exact k.refl s
  | succ n ih =>
    unfold Machine.takeOffers
    split
    · exact k.refl s
    · exact k.after (k.trans (k.takeOffer _ _) (ih _)) ⟨rfl, rfl, rfl⟩

/-- An event, and what the units make of the offers that it brought (R34, R48). -/
theorem settle {s t : State} (h : R s t) : R s (settle t) := k.trans h (k.takeOffers _ t)

theorem expireWindow (j : Fin 4) (u : ArmedUnit) (s : State) : R s (expireWindow j u s) := by
  unfold Machine.expireWindow
  dsimp only
  split <;> exact k.settleUnit j _ s

/-! ### Event lines, counters and VETO -/

theorem qualifyLine (n : Fin 16) (l : Level) (s : State) : R s (qualifyLine n l s) := by
  unfold Machine.qualifyLine
  dsimp only
  split
  · exact k.aside ⟨rfl, rfl, rfl⟩
  · exact k.after (k.write _ _) ⟨rfl, rfl, rfl⟩

theorem moveLine (n : Fin 16) (l : Level) (s : State) : R s (moveLine n l s) := by
  unfold Machine.moveLine
  dsimp only
  split
  · split
    · exact k.aside ⟨rfl, rfl, rfl⟩
    · split
      · exact k.qualifyLine n l s
      · exact k.aside ⟨rfl, rfl, rfl⟩
  · split <;> exact k.aside ⟨rfl, rfl, rfl⟩

theorem qualifyVeto (l : Level) (s : State) : R s (qualifyVeto l s) := k.after (k.write _ _) ⟨rfl, rfl, rfl⟩

theorem moveVeto (l : Level) (s : State) : R s (moveVeto l s) := by
  unfold Machine.moveVeto
  dsimp only
  split <;> split <;> exact k.aside ⟨rfl, rfl, rfl⟩

theorem clearCounters (mask : Mask) (s : State) : R s (clearCounters mask s) :=
  k.aside ⟨clearCounters_store mask s, by rw [clearCounters_ctrl], by rw [clearCounters_ctrl]⟩

/-! ### Peers and station states -/

theorem hearPeer (a : Address) (s : State) : R s (hearPeer a s) := by
  unfold Machine.hearPeer
  dsimp only
  split
  · exact k.aside ⟨rfl, rfl, rfl⟩
  · exact k.aside ⟨rfl, rfl, rfl⟩
  · exact k.after (k.write _ _) ⟨rfl, rfl, rfl⟩

theorem noteBeacon (entry : PeerEntry) (m : BeaconMessage) (s : State) : R s (noteBeacon entry m s) := by
  unfold Machine.noteBeacon
  dsimp only
  split
  · exact k.aside ⟨rfl, rfl, rfl⟩
  · split
    · exact k.aside ⟨rfl, rfl, rfl⟩
    · exact k.after (k.write _ _) ⟨rfl, rfl, rfl⟩

theorem stepTime (a : Address) (l x : Time) (s : State) : R s (stepTime a l x s) := by
  unfold Machine.stepTime
  dsimp only
  split
  · exact k.refl s
  · exact k.after (k.trans (k.timeStepped _) (k.write _ _)) ⟨rfl, rfl, rfl⟩

theorem handleBeacon (m : BeaconMessage) (l : Time) (s : State) : R s (handleBeacon m l s) := by
  have hnoted := k.trans (k.hearPeer m.sender s) (k.noteBeacon (s.peer m.sender) m _)
  have hnumber := k.trans (k.trans hnoted (k.stepTime m.sender l m.time _)) (k.beaconNumber m.highest _)
  rw [Machine.handleBeacon, markHold_eq]
  exact k.before (k.trans hnumber (k.evaluateGroupBusy _)) ⟨rfl, rfl, rfl⟩

theorem losePeer (a : Address) (s : State) : R s (losePeer a s) := by
  have hlost : R s (Machine.write [.peerLost a] (s.setPeer a (s.peer a).lose)) :=
    k.after (k.write _ _) ⟨rfl, rfl, rfl⟩
  exact k.trans hlost (k.after (k.evaluateGroupBusy _) ⟨rfl, rfl, rfl⟩)

theorem enterRollCall (s : State) : R s (enterRollCall s) := by
  rw [enterRollCall_eq]
  exact k.aside ⟨rfl, rfl, rfl⟩

theorem enterMute (r : MuteReason) (s : State) : R s (enterMute r s) := by
  have hentry : R s (muteEntry r s) := k.aside ⟨rfl, rfl, rfl⟩
  have hmark := k.trans hentry (k.handOnHoldMark _)
  unfold Machine.enterMute
  dsimp only
  refine k.trans ?_ (k.overtake _)
  split <;> split
  · exact hmark
  · exact hentry
  · exact k.before hmark ⟨rfl, rfl, rfl⟩
  · exact k.before hentry ⟨rfl, rfl, rfl⟩

theorem enterByAddress (s : State) : R s (enterByAddress s) := by
  unfold Machine.enterByAddress
  split
  · exact k.enterMute _ s
  · exact k.enterRollCall s

theorem closeWindow (s : State) : R s (closeWindow s) := k.after (k.enterByAddress _) ⟨rfl, rfl, rfl⟩

theorem rejoinGroup (s : State) : R s (rejoinGroup s) := k.after (k.enterRollCall _) ⟨rfl, rfl, rfl⟩

theorem endRollCall (s : State) : R s (endRollCall s) := by
  have harmed : ∀ u, R u (armUnits u) := fun _ => k.aside ⟨rfl, rfl, rfl⟩
  exact k.after (k.trans (k.handOnHoldMark _) (k.trans (harmed _) (k.examineRegister _))) ⟨rfl, rfl, rfl⟩

theorem takeOwnAddress (s : State) : R s (takeOwnAddress s) := by
  unfold Machine.takeOwnAddress
  split
  · exact k.enterMute _ s
  · exact k.refl s

theorem failAttempt (s : State) : R s (failAttempt s) := by
  unfold Machine.failAttempt
  dsimp only
  split
  · exact k.after (k.enterMute _ _) ⟨rfl, rfl, rfl⟩
  · exact k.aside ⟨rfl, rfl, rfl⟩

theorem applyCommand (c : GroupCommand) (mask : Mask) (s : State) : R s (applyCommand c mask s) := by
  cases c with
  | clearCounters => exact k.clearCounters mask s
  | hold => exact k.setGroupHold true s
  | resume =>
    refine k.trans (k.aside ?_) (k.setGroupHold false _)
    split <;> exact ⟨rfl, rfl, rfl⟩

theorem reportSuccess (a : Attempt) (s : State) : R s (reportSuccess a s) := by
  unfold Machine.reportSuccess
  split
  · split
    · exact k.refl s
    · exact k.announce s
  · exact k.applyCommand _ _ s
  · exact k.aside ⟨rfl, rfl, rfl⟩

/-! ### Restarts -/

/-- A restart that keeps the store closes the open episode and clears the selection (R118, R149). -/
theorem restartBlocks (cause : RestartCause) (sa : Address) (s : State) :
    R s (restartBlocks cause sa (closeCurrent .cutByRestart s)) :=
  k.before (k.trans (k.close .cutByRestart s) (k.deselect _)) ⟨rfl, (closeCurrent_current _ s).symm, rfl⟩

theorem hardRestart (sa : Address) (s : State) : R s (hardRestart sa s) :=
  k.before (k.restartBlocks .hard sa s) ⟨rfl, rfl, rfl⟩

theorem softRestart (sa : Address) (s : State) : R s (softRestart sa s) := by
  have hveto : ∀ u, R u (vetoOnAfterRestart u) := fun u => by
    unfold vetoOnAfterRestart
    split
    · exact k.writeOne u _
    · exact k.refl u
  unfold Machine.softRestart
  refine k.trans ?_ (k.trans (hveto _) (k.enterByAddress _))
  exact k.before (k.restartBlocks .soft sa s) ⟨rfl, rfl, rfl⟩

theorem powerRestart (sa : Address) (s : State) : R s (powerRestart sa s) := k.powerOn rfl rfl

end EpisodeClosed

/-! ### What a command answers -/

/-- The relation leads from `s` to every next state that an outcome gives. -/
def Answers (R : State → State → Prop) (s : State) (o : Host.Outcome State Fault Refusal) : Prop :=
  ∀ t, o = .next t → R s t

theorem answers_next {R : State → State → Prop} {s t : State} (h : R s t) : Answers R s (.next t) := by
  rintro _ ⟨⟩
  exact h

namespace EpisodeClosed

variable {R : State → State → Prop} (k : EpisodeClosed R)

include k

theorem answers_aside {s t : State} (h : SameEpisodes s t) : Answers R s (.next t) := answers_next (k.aside h)

theorem answers_refl (s : State) : Answers R s (.next s) := answers_next (k.refl s)

/-- An event that happens under a condition, and otherwise leaves the state as it is. -/
theorem answers_if {c : Prop} [Decidable c] {s t : State} (h : R s t) :
    Answers R s (if c then .next t else .next s) := by
  split
  · exact answers_next h
  · exact k.answers_refl s

theorem answers_if_aside {c : Prop} [Decidable c] {s t : State} (h : SameEpisodes s t) :
    Answers R s (if c then .next t else .next s) := k.answers_if (k.aside h)

theorem answers_transact {f : State → State} {s : State} (h : R s (f s)) : Answers R s (transact f s) := by
  rw [transact_eq]
  split
  · exact answers_next h
  · exact k.answers_aside ⟨rfl, rfl, rfl⟩

theorem answers_dispatch {fieldsValid : Bool} {a : Address} {owner : State → State} {s : State}
    (h : ∀ u, R u (owner u)) : Answers R s (dispatch fieldsValid a owner s) := by
  have hjudged : R s (s.setLink s.link.judged) := k.aside ⟨rfl, rfl, rfl⟩
  unfold dispatch
  dsimp only
  split
  · split
    · exact answers_next hjudged
    · split
      · exact answers_next (k.settle (k.trans hjudged (k.takeOwnAddress _)))
      · exact answers_next (k.settle (k.trans hjudged (h _)))
  · exact k.answers_refl s

theorem answer {s t : State} (h : R s t) (r : Response) : R s (t.answer r) := k.before h ⟨rfl, rfl, rfl⟩

theorem answer_self (s : State) (r : Response) : R s (s.answer r) := k.answer (k.refl s) r

theorem result_self (s : State) (r : Result) : R s (s.result r) := k.answer_self s _

/-! ### Commands -/

theorem linePinChange (n : Fin 16) (l : Level) (s : State) : Answers R s (execLinePinChange n l s) := by
  unfold execLinePinChange
  split
  · exact k.answers_refl s
  · split
    · exact answers_next (k.settle (k.moveLine n l s))
    · exact k.answers_aside ⟨rfl, rfl, rfl⟩

theorem vetoPinChange (l : Level) (s : State) : Answers R s (execVetoPinChange l s) := by
  unfold execVetoPinChange
  split
  · exact k.answers_refl s
  · split
    · exact answers_next (k.moveVeto l s)
    · exact k.answers_aside ⟨rfl, rfl, rfl⟩

theorem windowExpiry (j : Fin 4) (s : State) : Answers R s (execWindowExpiry j s) := by
  unfold execWindowExpiry
  split
  · split
    · exact k.answers_refl s
    · exact answers_next (k.settle (k.expireWindow j _ s))
  · exact k.answers_refl s

theorem attemptStart (s : State) : Answers R s (execAttemptStart s) := by
  unfold execAttemptStart
  split
  · exact k.answers_refl s
  · exact k.answers_aside ⟨rfl, rfl, rfl⟩

theorem attemptFailure (e : BitError) (s : State) : Answers R s (execAttemptFailure e s) := by
  unfold execAttemptFailure
  dsimp only
  split
  · split
    · exact answers_next (k.settle (k.after (k.enterMute _ _) ⟨rfl, rfl, rfl⟩))
    · exact answers_next (k.settle (k.after (k.failAttempt _) ⟨rfl, rfl, rfl⟩))
  · exact k.answers_refl s

theorem attemptSuccess (s : State) : Answers R s (execAttemptSuccess s) := by
  unfold execAttemptSuccess
  split
  · exact k.answers_refl s
  · exact k.answers_if (k.settle (k.after (k.reportSuccess _ _) ⟨rfl, rfl, rfl⟩))

theorem powerRestarts (sa : Address) (s : State) : Answers R s (execPowerRestart sa s) := by
  unfold execPowerRestart
  split
  · exact answers_next (k.powerRestart sa s)
  · exact answers_next (k.powerOn rfl rfl)

theorem resetLow (s : State) : Answers R s (execResetLow s) := by
  unfold execResetLow
  split <;> exact k.answers_aside ⟨rfl, rfl, rfl⟩

theorem hardRestarts (sa : Address) (s : State) : Answers R s (execHardRestart sa s) := by
  unfold execHardRestart
  split
  · split
    · exact answers_next (k.powerRestart sa s)
    · exact answers_next (k.hardRestart sa s)
  · exact k.answers_aside ⟨rfl, rfl, rfl⟩

theorem applyWrite (i : Item) (x : Settings) (s : State) : R s (applyWrite i x s) := by
  unfold Machine.applyWrite
  dsimp only
  split
  · exact k.after (k.evaluateBusy _) ⟨rfl, rfl, rfl⟩
  · exact k.aside ⟨rfl, rfl, rfl⟩

theorem writeConfig (item index : Byte) (value : BitVec 56) (s : State) :
    Answers R s (execWriteConfig item index value s) := by
  apply k.answers_transact
  split
  · exact k.result_self s _
  · split
    · exact k.result_self s _
    · split
      · exact k.result_self s _
      · exact k.answer (k.applyWrite _ _ s) _

theorem readConfig (item index : Byte) (s : State) : Answers R s (execReadConfig item index s) := by
  apply k.answers_transact
  split
  · exact k.result_self s _
  · exact k.answer_self s _

theorem closeConfig (s : State) : Answers R s (execCloseConfig s) := by
  apply k.answers_transact
  split
  · exact k.result_self s _
  · split
    · exact k.answer_self s _
    · exact k.answer (k.closeWindow s) _

theorem readPeer (a : Byte) (s : State) : Answers R s (execReadPeer a s) := by
  apply k.answers_transact
  dsimp only
  split
  · exact k.result_self s _
  · split
    · exact k.result_self s _
    · exact k.answer_self s _

theorem readHistoryNext (n : Byte) (s : State) : Answers R s (execReadHistoryNext n s) := by
  apply k.answers_transact
  split
  · exact k.aside ⟨rfl, rfl, rfl⟩
  · exact k.result_self s _

theorem selectEpisode (slot : Byte) (s : State) : Answers R s (execSelectEpisode slot s) := by
  apply k.answers_transact
  exact k.answer (k.select slot s) _

theorem readSlotRecords (n : Byte) (s : State) : Answers R s (execReadRecords n s) := by
  apply k.answers_transact
  split
  · exact k.answer (k.readRecords n.toNat s) _
  · exact k.result_self s _

theorem releaseEpisode (slot : Byte) (s : State) : Answers R s (execReleaseEpisode slot s) := by
  apply k.answers_transact
  split
  · exact k.result_self s _
  · split
    · exact k.result_self s _
    · exact k.result_self s _
    · exact k.settle (k.answer (k.trans (k.release _ _ s ‹_›) (k.evaluateBusy _)) _)

theorem softwareTrigger (s : State) : Answers R s (execSoftwareTrigger s) := by
  have hrequest := k.request .software s.time.group s
  apply k.answers_transact
  split
  · exact k.result_self s _
  · rename_i heq
    rw [heq] at hrequest
    exact k.settle (k.answer hrequest _)

theorem closeByHost (s : State) : Answers R s (execCloseEpisode s) := by
  apply k.answers_transact
  split
  · exact k.result_self s _
  · split
    · exact k.settle (k.answer (k.closeEpisode .cutByHost s) _)
    · exact k.result_self s _

theorem writeLocalHold (v : Byte) (s : State) : Answers R s (execSetLocalHold v s) := by
  apply k.answers_transact
  split
  · exact k.settle (k.answer (k.setLocalHold _ s) _)
  · exact k.result_self s _

theorem sendGroupCommand (code : Byte) (mask : Mask) (s : State) :
    Answers R s (execSendGroupCommand code mask s) := by
  apply k.answers_transact
  split
  · exact k.result_self s _
  · split
    · exact k.result_self s _
    · split
      · exact k.result_self s _
      · exact k.aside ⟨rfl, rfl, rfl⟩

theorem rejoin (s : State) : Answers R s (execRejoin s) := by
  apply k.answers_transact
  split
  · exact k.answer (k.rejoinGroup s) _
  · exact k.result_self s _

theorem restart (sa : Address) (s : State) : Answers R s (execRestart sa s) := by
  apply k.answers_transact
  split
  · exact k.result_self s _
  · exact k.before (k.softRestart sa s) ⟨rfl, rfl, rfl⟩

/-- The relation holds of every command. -/
theorem exec (c : Instr) (s : State) : Answers R s (exec c s) := by
  cases c with
  | linePinChange n l => exact k.linePinChange n l s
  | qualificationTimerExpiry n => exact k.answers_if (k.settle (k.qualifyLine n _ s))
  | vetoPinChange l => exact k.vetoPinChange l s
  | vetoQualificationExpiry => exact k.answers_if (k.settle (k.qualifyVeto _ s))
  | windowExpiry j => exact k.windowExpiry j s
  | postTimeExpiry => exact k.answers_if (k.settle (k.closeEpisode .timed s))
  | holdLimitExpiry => exact k.answers_if (k.settle (k.expireRegister s))
  | attemptStart => exact k.attemptStart s
  | attemptFailure e => exact k.attemptFailure e s
  | attemptSuccess => exact k.attemptSuccess s
  | ownAddressMessage => exact k.answers_if (k.settle (k.after (k.takeOwnAddress _) ⟨rfl, rfl, rfl⟩))
  | triggerReceived m =>
    exact k.answers_dispatch fun u =>
      k.trans (k.trans (k.hearPeer m.sender u) (k.controllerTrigger m _)) (k.bring _ _)
  | beaconReceived m => exact k.answers_dispatch (k.handleBeacon m _)
  | clearCountersReceived a mask =>
    exact k.answers_dispatch fun u => k.trans (k.hearPeer a u) (k.applyCommand _ _ _)
  | holdReceived a => exact k.answers_dispatch fun u => k.trans (k.hearPeer a u) (k.applyCommand _ _ _)
  | resumeReceived a => exact k.answers_dispatch fun u => k.trans (k.hearPeer a u) (k.applyCommand _ _ _)
  | silenceTimerExpiry a => exact k.answers_if (k.settle (k.losePeer a s))
  | beaconTimerExpiry => exact k.answers_if (k.after (k.requestBeacon _) ⟨rfl, rfl, rfl⟩)
  | rollCallExpiry => exact k.answers_if (k.settle (k.endRollCall s))
  | powerRestart sa => exact k.powerRestarts sa s
  | supplyLoss => exact answers_next (k.powerOn rfl rfl)
  | resetLow => exact k.resetLow s
  | hardRestart sa => exact k.hardRestarts sa s
  | writeConfig item index value => exact k.writeConfig item index value s
  | readConfig item index => exact k.readConfig item index s
  | closeConfig => exact k.closeConfig s
  | readPeer a => exact k.readPeer a s
  | readHistoryNext n => exact k.readHistoryNext n s
  | selectEpisode slot => exact k.selectEpisode slot s
  | readRecords n => exact k.readSlotRecords n s
  | releaseEpisode slot => exact k.releaseEpisode slot s
  | softwareTrigger => exact k.softwareTrigger s
  | closeEpisode => exact k.closeByHost s
  | setLocalHold v => exact k.writeLocalHold v s
  | sendGroupCommand code mask => exact k.sendGroupCommand code mask s
  | rejoin => exact k.rejoin s
  | restart sa => exact k.restart sa s
  | lineFree | arbitrationLoss | messageAbandon | messageInvalid | groupTimeLimit | startBitReceived =>
    exact k.answers_if_aside ⟨rfl, rfl, rfl⟩
  | status | readCounters | readHistory | listEpisodes | readHeader | ackAttention | shortTransaction
  | unknownCommand =>
    apply k.answers_transact
    exact k.aside ⟨rfl, rfl, rfl⟩

/-- The relation holds of every step: of the tick of the clock, and of the command at the front of the queue. -/
theorem step {s t : State} (h : step s = .next t) : R s t := by
  unfold Machine.step at h
  split at h
  · cases h
    unfold tick
    split
    · exact k.aside ⟨rfl, rfl, rfl⟩
    · exact k.refl s
  · exact k.after (k.exec _ _ t h) ⟨rfl, rfl, rfl⟩

end EpisodeClosed

end Sys2Proof.Machine
end

section
/-! PROOFS. The handling of a received TRIGGER (R103 to R109): the case it meets, and its records and its FOLLOWER. -/

namespace Sys2Proof.Machine

open Sys2Proof.Machine.Claims

/-! ### The case that a TRIGGER meets (R104, R109) -/

section

variable {s : State} {o : OpenEpisode} {e : Episode} (hm : s.station.mode ≠ .rollCall) (hh : s.held = false)
  (ho : s.ctrl.current = some o) (he : s.store.slot o.slot = .filling e)

include hm hh ho he

/-- Outside ROLLCALL and under no hold, the open episode's number decides the case (cases 2, 3 and 5 of R104). -/
theorem triggerCase_of_number {n : Word32} (hn : e.header.number = some n) (x : Word32) :
    triggerCase x s =
      if n = x then .join
      else if n < x then (if o.claim = .unannounced then .renumber else .cut) else .stale := by
  simp only [triggerCase, hm, hh, ho, openEpisode_of_filling ho he, hn, if_false, Bool.false_eq_true]

/-- Where the open episode has no number, its floor decides the case (cases 3 and 5 of R104, R106). -/
theorem triggerCase_of_floor (hn : e.header.number = none) {f : Word32} (hf : o.floor = some f) (x : Word32) :
    triggerCase x s = if o.claim = .unannounced ∧ f ≤ x then .renumber else .stale := by
  simp only [triggerCase, hm, hh, ho, openEpisode_of_filling ho he, hn, hf, if_false, Bool.false_eq_true]

/-- Neither number nor floor: every TRIGGER is stale (case 5 of R104). -/
theorem triggerCase_of_neither (hn : e.header.number = none) (hf : o.floor = none) (x : Word32) :
    triggerCase x s = .stale := by
  simp only [triggerCase, hm, hh, ho, openEpisode_of_filling ho he, hn, hf, if_false, Bool.false_eq_true]

end

/-- With no episode open, the highest number decides the case (cases 6 and 7 of R104). -/
theorem triggerCase_of_no_episode {s : State} (hm : s.station.mode ≠ .rollCall) (hh : s.held = false)
    (ho : s.openEpisode = none) (x : Word32) :
    triggerCase x s = if s.ctrl.highest < x then .follow else .late := by
  unfold triggerCase
  rw [if_neg hm, hh, if_neg Bool.false_ne_true, ho]
  cases s.ctrl.current <;> rfl

theorem triggerCase_of_rollCall {s : State} (h : s.station.mode = .rollCall) (x : Word32) :
    triggerCase x s = .notCaptured := if_pos h

/-- A TRIGGER that is captured meets a station under no hold and not in ROLLCALL (R104, R109). -/
theorem not_held_of_captured {s : State} {x : Word32} (h : triggerCase x s ≠ .notCaptured) :
    s.station.mode ≠ .rollCall ∧ s.held = false := by
  refine ⟨fun hm => h (triggerCase_of_rollCall hm x), ?_⟩
  exact Bool.eq_false_iff.2 fun hh => h (triggerCase_of_held hh x)

/-- A TRIGGER is followed with no episode open, and above the highest number (case 6 of R104). -/
theorem triggerCase_eq_follow {s : State} {x : Word32} (h : triggerCase x s = .follow) :
    s.openEpisode = none ∧ s.ctrl.highest < x := by
  obtain ⟨hm, hh⟩ := not_held_of_captured (s := s) (x := x) (by rw [h]; nofun)
  cases hopen : s.openEpisode with
  | none =>
    rw [triggerCase_of_no_episode hm hh hopen] at h
    split at h
    · exact ⟨rfl, ‹_›⟩
    · cases h
  | some e =>
    obtain ⟨o, ho, he⟩ := openEpisode_eq_some_iff.1 hopen
    cases hn : e.header.number with
    | some n =>
      rw [triggerCase_of_number hm hh ho he hn] at h
      split_ifs at h
    | none =>
      cases hf : o.floor with
      | some f =>
        rw [triggerCase_of_floor hm hh ho he hn hf] at h
        split_ifs at h
      | none =>
        rw [triggerCase_of_neither hm hh ho he hn hf] at h
        cases h

/-- The open episode that a TRIGGER renumbers or cuts stands below it (cases 3 and 5 of R104, R106, R107). -/
theorem triggerCase_eq_renumber_or_cut {s : State} {x : Word32}
    (h : triggerCase x s = .renumber ∨ triggerCase x s = .cut) :
    ∃ o e, s.ctrl.current = some o ∧ s.store.slot o.slot = .filling e ∧
      ((∃ n, e.header.number = some n ∧ n < x) ∨
        (e.header.number = none ∧ ∃ f, o.floor = some f ∧ f ≤ x)) := by
  obtain ⟨hm, hh⟩ := not_held_of_captured (s := s) (x := x) (by rcases h with h | h <;> rw [h] <;> nofun)
  cases hopen : s.openEpisode with
  | none =>
    rw [triggerCase_of_no_episode hm hh hopen] at h
    split_ifs at h <;> simp at h
  | some e =>
    obtain ⟨o, ho, he⟩ := openEpisode_eq_some_iff.1 hopen
    refine ⟨o, e, ho, he, ?_⟩
    cases hn : e.header.number with
    | some n =>
      rw [triggerCase_of_number hm hh ho he hn] at h
      split_ifs at h with hjoin hbelow
      · simp at h
      · exact .inl ⟨n, rfl, hbelow⟩
      · exact .inl ⟨n, rfl, hbelow⟩
      · simp at h
    | none =>
      cases hf : o.floor with
      | some f =>
        rw [triggerCase_of_floor hm hh ho he hn hf] at h
        split_ifs at h with hclaim
        · exact .inr ⟨rfl, f, rfl, hclaim.2⟩
        · simp at h
      | none =>
        rw [triggerCase_of_neither hm hh ho he hn hf] at h
        simp at h

/-! ### The records and the FOLLOWER (R103, R107, R108) -/

/-- Where the episode runs on, a TRIGGER ends with its records (steps 3 to 5 of R103). -/
theorem handleTrigger_of_not_follows {c : TriggerCase} (hc : c.follows = false) (m : TriggerMessage) (s : State) :
    handleTrigger c m s =
      writeOne (writeGap (skipped (triggerActions c m s).ctrl.highest m.number)
        (raiseHighest m.number (triggerActions c m s)))
        (.remoteTrigger m.sender m.number (remoteFlag c (triggerActions c m s).store.hasRoom)) := by
  simp only [handleTrigger, hc, Bool.false_and, Bool.false_eq_true, if_false]
  rfl

/-- With no episode open, the records of a TRIGGER go to the ring alone (steps 3 to 5 of R103). -/
theorem writeRemoteTrigger_of_no_episode {s : State} (h : s.ctrl.current = none) (m : TriggerMessage)
    (f : Option RemoteFlag) :
    writeOne (writeGap (skipped s.ctrl.highest m.number) (raiseHighest m.number s))
      (.remoteTrigger m.sender m.number f) = numbered m f s := by
  rw [raiseHighest_eq, writeGap_of_no_episode, writeOne_of_no_episode]
  · simp only [numbered, logged, List.foldl_append]
    rfl
  · exact h
  · exact h

/-- Where no episode is open after the actions of its case, a TRIGGER ends with its records, and with its FOLLOWER where
the case has one and there is room (steps 3 to 6 of R103). -/
theorem handleTrigger_of_no_episode {c : TriggerCase} {m : TriggerMessage} {s : State}
    (h : (triggerActions c m s).ctrl.current = none) :
    handleTrigger c m s =
      if c.follows && (triggerActions c m s).store.hasRoom
      then followTrigger c m
        (numbered m (remoteFlag c (triggerActions c m s).store.hasRoom) (triggerActions c m s))
      else numbered m (remoteFlag c (triggerActions c m s).store.hasRoom) (triggerActions c m s) := by
  rw [← writeRemoteTrigger_of_no_episode h]
  rfl

end Sys2Proof.Machine
end

section
/-! PROOFS. The FILLING slot is the open episode's, and episode numbers are distinct, bounded by the highest number, and
below that of the open episode: kept by every step (R93, R95, R106, R117). -/

namespace Sys2Proof.Machine

open Sys2Proof.Machine.Claims

/-! ### Numbers in the store -/

theorem Word32.lt_succ_of_ne_limit {n : Word32} (h : n ≠ Word32.limit) : n < n + 1#32 := by
  have hn : n.toNat ≠ 4294967295 := fun e => h (BitVec.eq_of_toNat_eq e)
  bv_omega

theorem Word32.le_limit (n : Word32) : n ≤ Word32.limit := by
  have hlimit : Word32.limit.toNat = 4294967295 := rfl
  rw [BitVec.le_def, hlimit]
  omega

theorem Slot.not_isFilling_free : ¬ Slot.IsFilling .free := by simp [Slot.IsFilling]

theorem Slot.not_isFilling_complete (e : Episode) : ¬ Slot.IsFilling (.complete e) := by
  simp [Slot.IsFilling]

theorem Store.numberAt_of_filling {st : Store} {i : Fin 8} {e : Episode} (h : st.slot i = .filling e) :
    st.numberAt i = e.header.number := by
  simp [Store.numberAt, h, Slot.episode]

@[simp] theorem Store.numberAt_setSlot_self (st : Store) (i : Fin 8) (x : Slot) :
    (st.setSlot i x).numberAt i = x.episode.bind (fun e => e.header.number) := by
  simp [Store.numberAt]

theorem Store.numberAt_setSlot_ne (st : Store) {i j : Fin 8} (x : Slot) (h : j ≠ i) :
    (st.setSlot i x).numberAt j = st.numberAt j := by
  rw [Store.numberAt, st.slot_setSlot_ne x h.symm, Store.numberAt]

/-- The numbers of the slots but `i` lie below `x`. -/
def Store.NumbersBelow (st : Store) (i : Fin 8) (x : Word32) : Prop :=
  ∀ j n, j ≠ i → st.numberAt j = some n → n < x

theorem Store.NumbersBelow.mono {st : Store} {i : Fin 8} {x y : Word32} (h : st.NumbersBelow i x) (hxy : x ≤ y) :
    st.NumbersBelow i y := fun j n hj hn => by
  have := h j n hj hn
  bv_omega

/-- What lies above the highest number lies above every number in the store (R93). -/
theorem HighestBounds.numbersBelow {s : State} (h : HighestBounds s) {x : Word32} (hx : s.ctrl.highest < x)
    (i : Fin 8) : s.store.NumbersBelow i x := fun j n _ hn => by
  have := h j n hn
  bv_omega

/-- The slot of the open episode is FILLING (R95). -/
theorem OpenSlotSound.filling {s : State} (h : OpenSlotSound s) {o : OpenEpisode} (ho : s.ctrl.current = some o) :
    ∃ e, s.store.slot o.slot = .filling e := (h o.slot).2 (by rw [ho]; rfl)

/-- In a sound station no episode open at the store means none at the controller (R95). -/
theorem OpenSlotSound.current_eq_none {s : State} (h : OpenSlotSound s) (ho : s.openEpisode = none) :
    s.ctrl.current = none := by
  cases hc : s.ctrl.current with
  | none => rfl
  | some o =>
    obtain ⟨e, he⟩ := h.filling hc
    rw [openEpisode_of_filling hc he] at ho
    cases ho

/-- A store without a FILLING slot is sound where no episode is open. -/
theorem openSlotSound_of_none {s : State} (hc : s.ctrl.current = none) (h : ∀ i, ¬ (s.store.slot i).IsFilling) :
    OpenSlotSound s := fun i => by simp [hc, h i]

theorem OpenSlotSound.not_filling {s : State} (h : OpenSlotSound s) (hc : s.ctrl.current = none) (i : Fin 8) :
    ¬ (s.store.slot i).IsFilling := fun hf => by simpa [hc] using (h i).1 hf

/-! ### What keeps the numbering -/

/-- An event from `s` to `t` keeps the FILLING slot the open episode's, and the numbering sound. -/
structure KeepsNumbering (s t : State) : Prop where
  slots : OpenSlotSound s → OpenSlotSound t
  numbers : OpenSlotSound s → NumbersSound s → NumbersSound t

theorem KeepsNumbering.trans {s t u : State} (h : KeepsNumbering s t) (k : KeepsNumbering t u) : KeepsNumbering s u :=
  ⟨fun hs => k.slots (h.slots hs), fun hs hn => k.numbers (h.slots hs) (h.numbers hs hn)⟩

/-- From `s` to `t` no slot begins or ceases to be FILLING, no number changes, the open episode keeps slot and renumber
floor, and the highest number is raised at most. -/
structure LeavesNumbers (s t : State) : Prop where
  filling : ∀ i, (t.store.slot i).IsFilling ↔ (s.store.slot i).IsFilling
  number : ∀ i, t.store.numberAt i = s.store.numberAt i
  place : t.ctrl.current.map (fun o => (o.slot, o.floor)) = s.ctrl.current.map (fun o => (o.slot, o.floor))
  highest : s.ctrl.highest ≤ t.ctrl.highest

namespace LeavesNumbers

theorem of_slots {s t : State} (hs : t.store.slots = s.store.slots)
    (hc : t.ctrl.current.map (fun o => (o.slot, o.floor)) = s.ctrl.current.map (fun o => (o.slot, o.floor)))
    (hh : s.ctrl.highest ≤ t.ctrl.highest) : LeavesNumbers s t where
  filling i := by simp only [Store.slot, hs]
  number i := by simp only [Store.numberAt, Store.slot, hs]
  place := hc
  highest := hh

theorem refl (s : State) : LeavesNumbers s s := of_slots rfl rfl (BitVec.le_refl _)

theorem trans {s t u : State} (h : LeavesNumbers s t) (k : LeavesNumbers t u) : LeavesNumbers s u where
  filling i := (k.filling i).trans (h.filling i)
  number i := (k.number i).trans (h.number i)
  place := k.place.trans h.place
  highest := BitVec.le_trans h.highest k.highest

theorem of_same {s t : State} (h : SameEpisodes s t) : LeavesNumbers s t := by
  obtain ⟨hs, hc, hh⟩ := h
  exact of_slots (by rw [hs]) (by rw [hc]) (hh ▸ BitVec.le_refl _)

/-- The open episode changes, but not its number. -/
theorem of_setSlot {s t : State} {i : Fin 8} {e e' : Episode} (he : s.store.slot i = .filling e)
    (hn : e'.header.number = e.header.number) (hs : t.store.slots = (s.store.setSlot i (.filling e')).slots)
    (hc : t.ctrl.current.map (fun o => (o.slot, o.floor)) = s.ctrl.current.map (fun o => (o.slot, o.floor)))
    (hh : s.ctrl.highest ≤ t.ctrl.highest) : LeavesNumbers s t := by
  have hset : LeavesNumbers s (s.setStore (s.store.setSlot i (.filling e'))) := by
    refine ⟨fun j => ?_, fun j => ?_, rfl, BitVec.le_refl _⟩ <;> by_cases hj : j = i
    · subst hj; simp [he, Slot.IsFilling]
    · rw [State.setStore_store, Store.slot_setSlot_ne _ _ (Ne.symm hj)]
    · subst hj; simp [Store.numberAt_of_filling he, Slot.episode, hn]
    · rw [State.setStore_store, Store.numberAt_setSlot_ne _ _ hj]
  exact hset.trans (of_slots hs hc hh)

theorem keeps {s t : State} (h : LeavesNumbers s t) : KeepsNumbering s t where
  slots hs i := by
    have hslot : t.ctrl.current.map OpenEpisode.slot = s.ctrl.current.map OpenEpisode.slot := by
      simpa [Option.map_map, Function.comp_def] using congrArg (Option.map Prod.fst) h.place
    rw [h.filling i, hslot, hs i]
  numbers _ := fun ⟨hdistinct, hbounds, habove⟩ => by
    refine ⟨fun i j n hi hj => ?_, fun i n hi => ?_, fun o ho i n hi hn => ?_⟩
    · exact hdistinct i j n (h.number i ▸ hi) (h.number j ▸ hj)
    · exact BitVec.le_trans (hbounds i n (h.number i ▸ hi)) h.highest
    · obtain ⟨o', ho', hplace⟩ : ∃ o', s.ctrl.current = some o' ∧ (o'.slot, o'.floor) = (o.slot, o.floor) := by
        simpa [ho] using h.place.symm
      obtain ⟨hslot, hfloor⟩ := Prod.ext_iff.1 hplace
      have habove := habove o' ho' i n (fun heq => hi (heq.trans hslot)) (h.number i ▸ hn)
      simpa only [h.number, ← show o'.slot = o.slot from hslot, ← show o'.floor = o.floor from hfloor] using habove

end LeavesNumbers

/-- The numbering is sound where the open episode, of number `x` or floor `f`, stands above the other slots, and these
keep the numbers that they had (R106). -/
theorem numbersSound_of_open {s t : State} {o : OpenEpisode} (hs : NumbersSound s) (ho : t.ctrl.current = some o)
    (hothers : ∀ j, j ≠ o.slot → t.store.numberAt j = s.store.numberAt j)
    (hh : s.ctrl.highest ≤ t.ctrl.highest)
    (hnumber : ∀ x, t.store.numberAt o.slot = some x → x ≤ t.ctrl.highest ∧ s.store.NumbersBelow o.slot x)
    (hfloor : t.store.numberAt o.slot = none → ∀ f, o.floor = some f → s.store.NumbersBelow o.slot f) :
    NumbersSound t := by
  obtain ⟨hdistinct, hbounds, -⟩ := hs
  have hbelow : ∀ x, t.store.numberAt o.slot = some x → ∀ j, j ≠ o.slot → t.store.numberAt j ≠ some x :=
    fun x hx j hj hn => BitVec.lt_irrefl x ((hnumber x hx).2 j x hj (hothers j hj ▸ hn))
  refine ⟨fun i j n hi hj => ?_, fun i n hi => ?_, fun o' ho' i n hi hn => ?_⟩
  · by_cases hio : i = o.slot <;> by_cases hjo : j = o.slot
    · rw [hio, hjo]
    · exact absurd hj (hbelow n (hio ▸ hi) j hjo)
    · exact absurd hi (hbelow n (hjo ▸ hj) i hio)
    · exact hdistinct i j n (hothers i hio ▸ hi) (hothers j hjo ▸ hj)
  · by_cases hio : i = o.slot
    · exact (hnumber n (hio ▸ hi)).1
    · exact BitVec.le_trans (hbounds i n (hothers i hio ▸ hi)) hh
  · obtain rfl : o' = o := Option.some.inj (ho'.symm.trans ho)
    have hn := hothers i hi ▸ hn
    exact ⟨fun m hm => (hnumber m hm).2 i n hi hn, fun hnone f hf => hfloor hnone f hf i n hi hn⟩

/-- The open episode takes another number, or loses it for a renumber floor, above those of the other slots (R106,
R110, R112). -/
theorem keepsNumbering_of_renumbered {s t : State} {o o' : OpenEpisode} {e e' : Episode}
    (ho : s.ctrl.current = some o) (he : s.store.slot o.slot = .filling e)
    (hstore : t.store = s.store.setSlot o.slot (.filling e')) (ho' : t.ctrl.current = some o')
    (hslot : o'.slot = o.slot) (hh : s.ctrl.highest ≤ t.ctrl.highest)
    (hnumber : NumbersSound s → ∀ x, e'.header.number = some x →
      x ≤ t.ctrl.highest ∧ s.store.NumbersBelow o.slot x)
    (hfloor : NumbersSound s → e'.header.number = none → ∀ f, o'.floor = some f → s.store.NumbersBelow o.slot f) :
    KeepsNumbering s t := by
  have hself : t.store.numberAt o'.slot = e'.header.number := by
    rw [hstore, hslot, Store.numberAt_setSlot_self]
    rfl
  refine ⟨fun hs i => ?_, fun _ hn => numbersSound_of_open hn ho' (fun j hj => ?_) hh ?_ ?_⟩
  · have hfilling : (t.store.slot i).IsFilling ↔ (s.store.slot i).IsFilling := by
      by_cases hi : i = o.slot
      · subst hi; simp [hstore, he, Slot.IsFilling]
      · rw [hstore, Store.slot_setSlot_ne _ _ (Ne.symm hi)]
    rw [hfilling, hs i, ho, ho', Option.map_some, Option.map_some, hslot]
  · rw [hstore, Store.numberAt_setSlot_ne _ _ (hslot ▸ hj)]
  · rw [hself, hslot]; exact hnumber hn
  · rw [hself, hslot]; exact hfloor hn

/-- The open episode's number lies above those of the other slots (R106). -/
theorem NumbersSound.below_number {s : State} (h : NumbersSound s) {o : OpenEpisode} {e : Episode}
    (ho : s.ctrl.current = some o) (he : s.store.slot o.slot = .filling e) {n : Word32}
    (hn : e.header.number = some n) : s.store.NumbersBelow o.slot n := by
  obtain ⟨-, -, habove⟩ := h
  intro i x hi hx
  exact (habove o ho i x hi hx).1 n ((Store.numberAt_of_filling he).trans hn)

/-- The open episode's floor lies above the numbers of the other slots, where it has no number (R106). -/
theorem NumbersSound.below_floor {s : State} (h : NumbersSound s) {o : OpenEpisode} {e : Episode}
    (ho : s.ctrl.current = some o) (he : s.store.slot o.slot = .filling e) (hn : e.header.number = none) {f : Word32}
    (hf : o.floor = some f) : s.store.NumbersBelow o.slot f := by
  obtain ⟨-, -, habove⟩ := h
  intro i x hi hx
  exact (habove o ho i x hi hx).2 ((Store.numberAt_of_filling he).trans hn) f hf

/-! ### Closes and records -/

/-- In a sound station a close makes the FILLING slot COMPLETE (R114, R140). -/
theorem closeCurrent_store_of_sound {s : State} {o : OpenEpisode} (hs : OpenSlotSound s) (hc : s.ctrl.current = some o)
    (e : EndStatus) : ∃ ep, s.store.slot o.slot = .filling ep ∧ (closeCurrent e s).store =
      s.store.setSlot o.slot (.complete { ep with header := { ep.header with endStatus := some e } }) := by
  obtain ⟨ep, hep⟩ := hs.filling hc
  exact ⟨ep, hep, by rw [closeCurrent_store, hc, ← Store.complete_of_filling hep]⟩

theorem closeCurrent_of_none {s : State} (hc : s.ctrl.current = none) (e : EndStatus) : closeCurrent e s = s := by
  rw [closeCurrent, hc]

/-- A close changes no number (R114). -/
theorem closeCurrent_numberAt {s : State} (hs : OpenSlotSound s) (e : EndStatus) (i : Fin 8) :
    (closeCurrent e s).store.numberAt i = s.store.numberAt i := by
  cases hc : s.ctrl.current with
  | none => rw [closeCurrent_of_none hc]
  | some o =>
    obtain ⟨ep, hep, hstore⟩ := closeCurrent_store_of_sound hs hc e
    rw [hstore]
    by_cases hi : i = o.slot
    · subst hi; rw [Store.numberAt_setSlot_self, Store.numberAt_of_filling hep]; rfl
    · rw [Store.numberAt_setSlot_ne _ _ hi]

theorem keepsNumbering_closeCurrent (e : EndStatus) (s : State) : KeepsNumbering s (closeCurrent e s) := by
  refine ⟨fun hs => openSlotSound_of_none (closeCurrent_current e s) fun i => ?_, fun hs ⟨hdistinct, hbounds, _⟩ => ?_⟩
  · cases hc : s.ctrl.current with
    | none => rw [closeCurrent_of_none hc]; exact hs.not_filling hc i
    | some o =>
      obtain ⟨ep, -, hstore⟩ := closeCurrent_store_of_sound hs hc e
      rw [hstore]
      by_cases hi : i = o.slot
      · subst hi; rw [Store.slot_setSlot_self]; exact Slot.not_isFilling_complete _
      · rw [Store.slot_setSlot_ne _ _ (Ne.symm hi), hs i, hc]
        exact fun h => hi (Option.some.inj h).symm
  · have hnumber := closeCurrent_numberAt hs e
    refine ⟨fun i j n hi hj => ?_, fun i n hi => ?_, fun o ho => ?_⟩
    · exact hdistinct i j n (hnumber i ▸ hi) (hnumber j ▸ hj)
    · rw [closeCurrent_ctrl]
      exact hbounds i n (hnumber i ▸ hi)
    · rw [closeCurrent_current] at ho
      cases ho

theorem keepsNumbering_updateBusy (s : State) : KeepsNumbering s (updateBusy s) :=
  (LeavesNumbers.of_same ⟨updateBusy_store s, updateBusy_current s, updateBusy_highest s⟩).keeps

/-- A record handed over changes no number, and may close the episode (R24, R138). -/
theorem keepsNumbering_writeOne (s : State) (b : RecordBody) : KeepsNumbering s (writeOne s b) := by
  have hring : LeavesNumbers s (s.setRing (s.ring.put (stamp b s))) := .of_slots rfl rfl (BitVec.le_refl _)
  refine hring.keeps.trans ?_
  rcases handOver_cases (stamp b s) (s.setRing (s.ring.put (stamp b s))) with
    h | ⟨o, e, _, he, ⟨_, h⟩ | ⟨_, s1, h1, ⟨_, h⟩ | ⟨_, h⟩⟩⟩
  · rw [writeOne, h]; exact (LeavesNumbers.refl _).keeps
  · rw [writeOne, h]; exact keepsNumbering_closeCurrent _ _
  · have happend : LeavesNumbers (s.setRing (s.ring.put (stamp b s))) s1 :=
      h1 ▸ .of_setSlot (e' := e.append (stamp b s)) he rfl rfl rfl (BitVec.le_refl _)
    rw [writeOne, h]
    exact happend.keeps.trans ((keepsNumbering_closeCurrent .full s1).trans (keepsNumbering_updateBusy _))
  · have happend : LeavesNumbers (s.setRing (s.ring.put (stamp b s))) s1 :=
      h1 ▸ .of_setSlot (e' := e.append (stamp b s)) he rfl rfl rfl (BitVec.le_refl _)
    rw [writeOne, h]
    exact happend.keeps.trans (keepsNumbering_updateBusy _)

/-! ### Openings -/

theorem openIn_slot_self (o : Opening) (i : Fin 8) (s : State) :
    (openIn o i s).store.slot i = .filling (openedEpisode o i s) := by
  rw [openIn_store]
  exact Store.slot_setSlot_self s.store i _

theorem openIn_slot_ne (o : Opening) {i j : Fin 8} (s : State) (h : j ≠ i) :
    (openIn o i s).store.slot j = s.store.slot j := by
  rw [openIn_store]
  exact Store.slot_setSlot_ne s.store _ h.symm

/-- The slot of an opening is the only FILLING one, as no episode was open (R95, R101). -/
theorem openSlotSound_openIn {s : State} (hs : OpenSlotSound s) (hc : s.ctrl.current = none) (o : Opening) (i : Fin 8) :
    OpenSlotSound (openIn o i s) := by
  intro j
  rw [openIn_current, Option.map_some]
  by_cases hj : j = i
  · subst hj; rw [openIn_slot_self]; simp [Slot.IsFilling]
  · rw [openIn_slot_ne o s hj]
    simpa [hs.not_filling hc j] using Ne.symm hj

/-- An opening with a number, or else a floor, above those in the store keeps the numbering sound (R98, R99, R108). -/
theorem numbersSound_openIn {s : State} (hs : NumbersSound s) {o : Opening} {i : Fin 8}
    (hnumber : ∀ x, o.number = some x → x ≤ s.ctrl.highest ∧ s.store.NumbersBelow i x)
    (hfloor : o.number = none → ∀ f, o.floor = some f → s.store.NumbersBelow i f) :
    NumbersSound (openIn o i s) := by
  have hself : (openIn o i s).store.numberAt i = o.number := Store.numberAt_of_filling (openIn_slot_self o i s)
  refine numbersSound_of_open hs (openIn_current o i s) (fun j hj => ?_) ?_ ?_ ?_
  · rw [Store.numberAt, openIn_slot_ne o s hj, Store.numberAt]
  · rw [openIn_highest]; exact BitVec.le_refl _
  · rw [hself, openIn_highest]; exact hnumber
  · rw [hself]; exact hfloor

theorem keepsNumbering_openOriginator (c : OwnCause × Time) (cs : List (OwnCause × Time)) (ov : Bool) (i : Fin 8)
    {s : State} (ho : s.openEpisode = none) (hlimit : s.ctrl.highest ≠ Word32.limit) :
    KeepsNumbering s (openIn (originatorOpening (s.ctrl.highest + 1#32) s.station.address c cs ov) i
      (s.setCtrl { s.ctrl with highest := s.ctrl.highest + 1#32 })) := by
  have hnext := Word32.lt_succ_of_ne_limit hlimit
  have hraised : LeavesNumbers s (s.setCtrl { s.ctrl with highest := s.ctrl.highest + 1#32 }) :=
    .of_slots rfl rfl (BitVec.le_of_lt hnext)
  refine ⟨fun hs => ?_, fun hs hn => numbersSound_openIn (hraised.keeps.numbers hs hn) ?_ nofun⟩
  · exact openSlotSound_openIn (hraised.keeps.slots hs) (hs.current_eq_none ho) _ i
  · rintro x ⟨⟩
    exact ⟨BitVec.le_refl _, hn.2.1.numbersBelow hnext i⟩

theorem keepsNumbering_openLocal (c : OwnCause) (x : Time) (i : Fin 8) {s : State} (ho : s.openEpisode = none) :
    KeepsNumbering s (openIn (localOpening s.ctrl.highest c x) i s) := by
  refine ⟨fun hs => openSlotSound_openIn hs (hs.current_eq_none ho) _ i, fun hs hn =>
    numbersSound_openIn hn nofun fun _ f hf => ?_⟩
  by_cases hlimit : s.ctrl.highest = Word32.limit
  · simp [localOpening, hlimit] at hf
  · obtain rfl : s.ctrl.highest + 1#32 = f := by simpa [localOpening, hlimit] using hf
    exact hn.2.1.numbersBelow (Word32.lt_succ_of_ne_limit hlimit) i

/-! ### Headers, claims and the highest number -/

/-- With no FILLING slot there is no header to change. -/
theorem mapHeader_of_openEpisode_none {s : State} (h : s.openEpisode = none) (f : Header → Header) :
    s.mapHeader f = s := by
  unfold State.mapHeader State.mapEpisode
  split
  · rfl
  · rename_i o ho
    split
    · rename_i e he
      rw [openEpisode_of_filling ho he] at h
      cases h
    · rfl
    · rfl

/-- A change of the open episode's header that keeps its number. -/
theorem leavesNumbers_mapHeader (s : State) {f : Header → Header} (hf : ∀ h, (f h).number = h.number) :
    LeavesNumbers s (s.mapHeader f) := by
  cases hopen : s.openEpisode with
  | none => rw [mapHeader_of_openEpisode_none hopen]; exact .refl s
  | some e =>
    obtain ⟨o, ho, he⟩ := openEpisode_eq_some_iff.1 hopen
    rw [mapHeader_of_filling ho he]
    exact .of_setSlot he (hf _) rfl rfl (BitVec.le_refl _)

/-- A change of what the controller holds that keeps slot and floor. -/
theorem leavesNumbers_mapCurrent (s : State) {f : OpenEpisode → OpenEpisode}
    (hf : ∀ o, ((f o).slot, (f o).floor) = (o.slot, o.floor)) : LeavesNumbers s (s.mapCurrent f) := by
  refine .of_slots rfl ?_ (BitVec.le_refl _)
  simp only [State.mapCurrent, State.setCtrl_ctrl, Option.map_map, Function.comp_def, hf]

theorem leavesNumbers_withdraw (s : State) : LeavesNumbers s s.withdrawTrigger := .of_same ⟨rfl, rfl, rfl⟩

theorem le_raiseHighest (x : Word32) (s : State) : x ≤ (raiseHighest x s).ctrl.highest := by
  unfold raiseHighest
  split
  · exact BitVec.le_refl _
  · exact BitVec.not_lt.1 ‹_›

theorem leavesNumbers_raiseHighest (x : Word32) (s : State) : LeavesNumbers s (raiseHighest x s) := by
  have hh := (captureFrame_raiseHighest x s).highest
  rw [raiseHighest_eq] at hh ⊢
  exact .of_slots rfl rfl hh

theorem Header.addCause_number (h : Header) (c : CauseEntry) : (h.addCause c).number = h.number := by
  unfold Header.addCause; split <;> rfl

theorem leavesNumbers_addCause (c : CauseEntry) (s : State) : LeavesNumbers s (s.mapHeader (fun h => h.addCause c)) :=
  leavesNumbers_mapHeader s fun h => h.addCause_number c

theorem leavesNumbers_announceClaim (s : State) : LeavesNumbers s (announceClaim s) := by
  unfold announceClaim
  split
  · exact .refl s
  · split
    · refine (leavesNumbers_mapHeader s ?_).trans (leavesNumbers_mapCurrent _ ?_)
      · exact fun _ => rfl
      · exact fun _ => rfl
    · exact .refl s

/-- A claim overtaken gives up its number, which stays as its floor (R112). -/
theorem keepsNumbering_claimOvertakenByMute (s : State) : KeepsNumbering s (claimOvertakenByMute s) := by
  by_cases h : ∃ o e n, s.ctrl.current = some o ∧ s.store.slot o.slot = .filling e ∧ o.claim = .unannounced ∧
      e.header.number = some n
  · obtain ⟨o, e, n, ho, he, hc, hn⟩ := h
    rw [claimOvertakenByMute_of_claim ho he hc hn]
    refine keepsNumbering_of_renumbered ho he rfl rfl rfl (BitVec.le_refl _) (fun _ _ => nofun) fun hs _ f hf => ?_
    cases hf
    exact hs.below_number ho he hn
  · have hsame : claimOvertakenByMute s = s := by
      unfold claimOvertakenByMute
      split
      · rename_i o e ho hopen
        obtain ⟨o', ho', he⟩ := openEpisode_eq_some_iff.1 hopen
        obtain rfl : o' = o := Option.some.inj (ho'.symm.trans ho)
        split
        · exact if_neg fun hc => h ⟨o', e, _, ho, he, hc, ‹_›⟩
        · rfl
      · rfl
    rw [hsame]
    exact (LeavesNumbers.refl s).keeps

/-! ### Received TRIGGERs and beacon numbers -/

theorem leavesNumbers_joinEpisode (m : TriggerMessage) (s : State) : LeavesNumbers s (joinEpisode m s) := by
  have hcause := leavesNumbers_addCause (remoteEntry m) s
  unfold joinEpisode
  dsimp only
  split
  · exact hcause
  · split
    · refine ((hcause.trans (leavesNumbers_withdraw _)).trans (leavesNumbers_mapHeader _ ?_)).trans
        (leavesNumbers_mapCurrent _ ?_)
      · exact fun _ => rfl
      · exact fun _ => rfl
    · exact hcause.trans (leavesNumbers_mapHeader _ fun h => by split <;> rfl)
    · exact hcause

/-- A claim renumbered by a TRIGGER, in the open episode's slot (R106). -/
theorem renumberByTrigger_of_filling {s : State} {o : OpenEpisode} {e : Episode} (ho : s.ctrl.current = some o)
    (he : s.store.slot o.slot = .filling e) (m : TriggerMessage) :
    renumberByTrigger m s =
      ((s.setStore (s.store.setSlot o.slot (.filling { e with
        header := (({ e.header with number := some m.number }).coTrigger m).addCause (remoteEntry m) }))).setCtrl
        { s.ctrl with current := some { o with floor := none, claim := .learned } }).setLink s.link.withdraw := by
  rw [renumberByTrigger, mapHeader_of_filling ho he, State.mapCurrent]
  simp [ho]
  rfl

/-- The number that a TRIGGER gives a claim lies above those of the other slots (R106). -/
theorem keepsNumbering_renumberByTrigger {m : TriggerMessage} {s : State}
    (hc : triggerCase m.number s = .renumber) :
    KeepsNumbering s (raiseHighest m.number (renumberByTrigger m s)) := by
  obtain ⟨o, e, ho, he, hbelow⟩ := triggerCase_eq_renumber_or_cut (.inl hc)
  rw [renumberByTrigger_of_filling ho he]
  have hle := (captureFrame_raiseHighest m.number s).highest
  have hreach := le_raiseHighest m.number s
  rw [raiseHighest_eq] at hle hreach ⊢
  refine keepsNumbering_of_renumbered ho he rfl rfl rfl hle (fun hs x hx => ?_) (fun _ hnone => ?_)
  · rw [Header.addCause_number] at hx
    cases hx
    refine ⟨hreach, ?_⟩
    rcases hbelow with ⟨n, hn, hlt⟩ | ⟨hnone, f, hf, hle⟩
    · exact (hs.below_number ho he hn).mono (BitVec.le_of_lt hlt)
    · exact (hs.below_floor ho he hnone hf).mono hle
  · rw [Header.addCause_number] at hnone
    cases hnone

/-- The actions of a case and the highest number raised, where the episode runs on (steps 2 and 3 of R103). -/
theorem keepsNumbering_triggerActions {c : TriggerCase} {m : TriggerMessage} {s : State}
    (hc : triggerCase m.number s = c) (hf : c.follows = false) :
    KeepsNumbering s (raiseHighest m.number (triggerActions c m s)) := by
  have hraise : ∀ u, LeavesNumbers u (raiseHighest m.number u) := leavesNumbers_raiseHighest m.number
  cases c with
  | join => exact ((leavesNumbers_joinEpisode m s).trans (hraise _)).keeps
  | renumber => exact keepsNumbering_renumberByTrigger hc
  | cut => cases hf
  | follow => cases hf
  | notCaptured => exact (hraise s).keeps
  | stale => exact (hraise s).keeps
  | late => exact (hraise s).keeps

theorem keepsNumbering_writeGap (n : Nat) (s : State) : KeepsNumbering s (writeGap n s) := by
  unfold writeGap
  split
  · exact (LeavesNumbers.refl s).keeps
  · have hmark : LeavesNumbers s (s.setCtrl { s.ctrl with gapMark := true }) := .of_same ⟨rfl, rfl, rfl⟩
    exact hmark.keeps.trans (keepsNumbering_writeOne _ _)

/-- A case that opens a FOLLOWER leaves no episode open before it (R107, R108). -/
theorem triggerActions_current_of_follows {c : TriggerCase} {m : TriggerMessage} {s : State}
    (hc : triggerCase m.number s = c) (hf : c.follows = true) (hs : OpenSlotSound s) :
    (triggerActions c m s).ctrl.current = none := by
  cases c with
  | cut => exact closeCurrent_current .cutByNext s
  | follow => exact hs.current_eq_none (triggerCase_eq_follow hc).1
  | join | renumber | notCaptured | stale | late => cases hf

/-- A TRIGGER that a FOLLOWER takes stands above every number in the store (R104, R107). -/
theorem numberAt_lt_of_follows {c : TriggerCase} {m : TriggerMessage} {s : State}
    (hc : triggerCase m.number s = c) (hf : c.follows = true) (hn : NumbersSound s) {i : Fin 8} {n : Word32}
    (hi : s.store.numberAt i = some n) : n < m.number := by
  cases c with
  | follow =>
    have hle := hn.2.1 i n hi
    have hlt := (triggerCase_eq_follow hc).2
    bv_omega
  | cut =>
    obtain ⟨o, e, ho, he, hbelow⟩ := triggerCase_eq_renumber_or_cut (.inr hc)
    by_cases hio : i = o.slot
    · rw [hio, Store.numberAt_of_filling he] at hi
      rcases hbelow with ⟨x, hx, hlt⟩ | ⟨hnone, -⟩
      · exact Option.some.inj (hi.symm.trans hx) ▸ hlt
      · rw [hnone] at hi; cases hi
    · rcases hbelow with ⟨x, hx, hlt⟩ | ⟨hnone, f, hf, hle⟩
      · exact (hn.below_number ho he hx).mono (BitVec.le_of_lt hlt) i n hio hi
      · exact (hn.below_floor ho he hnone hf).mono hle i n hio hi
  | join | renumber | notCaptured | stale | late => cases hf

theorem leavesNumbers_numbered (m : TriggerMessage) (f : Option RemoteFlag) (s : State) :
    LeavesNumbers s (numbered m f s) := by
  have hle := (captureFrame_raiseHighest m.number s).highest
  rw [raiseHighest_eq] at hle
  exact .of_slots rfl rfl hle

theorem le_numbered (m : TriggerMessage) (f : Option RemoteFlag) (s : State) :
    m.number ≤ (numbered m f s).ctrl.highest := by
  have hreach := le_raiseHighest m.number s
  rwa [raiseHighest_eq] at hreach

/-- The register empties and a FOLLOWER opens in a FREE slot, or no slot or entry is free (R108, R127). -/
theorem followTrigger_cases (c : TriggerCase) (m : TriggerMessage) (s : State) :
    ∃ u, SameEpisodes u (followTrigger c m s) ∧
      (u = s.setCtrl { s.ctrl with register := none } ∨
        ∃ i, u = openIn (followerOpening m s.ctrl.register) i (s.setCtrl { s.ctrl with register := none })) := by
  refine ⟨openFollower m s, ?_, ?_⟩
  · unfold followTrigger
    split
    · exact ⟨rfl, rfl, rfl⟩
    · exact ⟨State.riseOpen_store _, congrArg _ (State.riseOpen_ctrl _), congrArg _ (State.riseOpen_ctrl _)⟩
  · rcases openLowest_cases (followerOpening m s.ctrl.register) (s.setCtrl { s.ctrl with register := none }) with
      h | ⟨i, -, -, h⟩
    · exact .inl h
    · exact .inr ⟨i, h⟩

theorem openSlotSound_followTrigger {s : State} (hs : OpenSlotSound s) (hc : s.ctrl.current = none) (c : TriggerCase)
    (m : TriggerMessage) : OpenSlotSound (followTrigger c m s) := by
  have hempty : OpenSlotSound (s.setCtrl { s.ctrl with register := none }) := hs
  obtain ⟨u, hsame, hu⟩ := followTrigger_cases c m s
  refine (LeavesNumbers.of_same hsame).keeps.slots ?_
  rcases hu with rfl | ⟨i, rfl⟩
  · exact hempty
  · exact openSlotSound_openIn hempty hc _ i

/-- A FOLLOWER whose number stands above those in the store keeps the numbering (R108). -/
theorem numbersSound_followTrigger {s : State} {m : TriggerMessage} (hs : OpenSlotSound s) (hc : s.ctrl.current = none)
    (hn : NumbersSound s) (hbelow : ∀ i n, s.store.numberAt i = some n → n < m.number)
    (hh : m.number ≤ s.ctrl.highest) (c : TriggerCase) : NumbersSound (followTrigger c m s) := by
  have hempty : NumbersSound (s.setCtrl { s.ctrl with register := none }) := hn
  have hslots : OpenSlotSound (s.setCtrl { s.ctrl with register := none }) := hs
  obtain ⟨u, hsame, hu⟩ := followTrigger_cases c m s
  rcases hu with rfl | ⟨i, rfl⟩
  · exact (LeavesNumbers.of_same hsame).keeps.numbers hslots hempty
  · refine (LeavesNumbers.of_same hsame).keeps.numbers (openSlotSound_openIn hslots hc _ i)
      (numbersSound_openIn hempty ?_ nofun)
    rintro x ⟨⟩
    exact ⟨hh, fun j n _ hj => hbelow j n hj⟩

/-- What a case that opens a FOLLOWER does before it changes no number (R107, R108). -/
theorem triggerActions_of_follows {c : TriggerCase} (hf : c.follows = true) (m : TriggerMessage) {s : State}
    (hs : OpenSlotSound s) : KeepsNumbering s (triggerActions c m s) ∧
      ∀ i, (triggerActions c m s).store.numberAt i = s.store.numberAt i := by
  cases c with
  | cut =>
    have hcut : triggerActions .cut m s = closeCurrent .cutByNext s := rfl
    rw [hcut]
    exact ⟨keepsNumbering_closeCurrent _ s, closeCurrent_numberAt hs _⟩
  | follow => exact ⟨(LeavesNumbers.refl s).keeps, fun _ => rfl⟩
  | join | renumber | notCaptured | stale | late => cases hf

/-- A TRIGGER keeps the numbering, in every case of R104. -/
theorem keepsNumbering_handleTrigger (m : TriggerMessage) (s : State) :
    KeepsNumbering s (handleTrigger (triggerCase m.number s) m s) := by
  generalize hc : triggerCase m.number s = c
  cases hf : c.follows with
  | false =>
    rw [handleTrigger_of_not_follows hf]
    exact (keepsNumbering_triggerActions hc hf).trans ((keepsNumbering_writeGap _ _).trans (keepsNumbering_writeOne _ _))
  | true =>
    have hrecords := fun f => leavesNumbers_numbered m f (triggerActions c m s)
    refine ⟨fun hs => ?_, fun hs hn => ?_⟩ <;> have hnone := triggerActions_current_of_follows hc hf hs <;>
      obtain ⟨hactions, hsame⟩ := triggerActions_of_follows hf m hs <;> rw [handleTrigger_of_no_episode hnone]
    · have hslots := fun f => (hrecords f).keeps.slots (hactions.slots hs)
      split
      · exact openSlotSound_followTrigger (hslots _) hnone c m
      · exact hslots _
    · have hslots := fun f => (hrecords f).keeps.slots (hactions.slots hs)
      have hnumbers := fun f => (hrecords f).keeps.numbers (hactions.slots hs) (hactions.numbers hs hn)
      split
      · refine numbersSound_followTrigger (hslots _) hnone (hnumbers _) (fun i n hi => ?_) (le_numbered m _ _) c
        rw [(hrecords _).number i, hsame i] at hi
        exact numberAt_lt_of_follows hc hf hn hi
      · exact hnumbers _

/-- At the greatest number a claim becomes LOCAL, in the open episode's slot (R110). -/
theorem renumberByBeacon_of_limit {s : State} {o : OpenEpisode} {e : Episode} {n : Word32}
    (ho : s.ctrl.current = some o) (he : s.store.slot o.slot = .filling e) (hc : o.claim = .unannounced)
    (hn : e.header.number = some n) :
    renumberByBeacon Word32.limit s =
      ((s.setStore (s.store.setSlot o.slot (.filling { e with
          header := { e.header with number := none, role := .localRole, originator := none } }))).setCtrl
        { s.ctrl with
          highest := if s.ctrl.highest < Word32.limit then Word32.limit else s.ctrl.highest
          current := some { o with floor := some n } }).setLink s.link.withdraw := by
  have hraised : ((raiseHighest Word32.limit s).withdrawTrigger).ctrl.current = some o := by
    rw [raiseHighest_eq]; exact ho
  have hslot : ((raiseHighest Word32.limit s).withdrawTrigger).store.slot o.slot = .filling e := by
    rw [raiseHighest_eq]; exact he
  unfold renumberByBeacon
  rw [ho, openEpisode_of_filling ho he]
  simp only [hn]
  rw [if_pos ⟨hc, Word32.le_limit n⟩, if_pos trivial]
  rw [mapHeader_of_filling hraised hslot, raiseHighest_eq]
  simp only [State.mapCurrent, State.setStore_ctrl, State.withdrawTrigger_ctrl, State.setCtrl_ctrl, ho, Option.map_some]
  rfl

/-- Below the greatest number a claim reached is renumbered, in the open episode's slot (R110). -/
theorem renumberByBeacon_of_reached {s : State} {o : OpenEpisode} {e : Episode} {n x : Word32}
    (ho : s.ctrl.current = some o) (he : s.store.slot o.slot = .filling e) (hc : o.claim = .unannounced)
    (hn : e.header.number = some n) (hle : n ≤ x) (hx : x ≠ Word32.limit) :
    renumberByBeacon x s =
      (s.setStore (s.store.setSlot o.slot (.filling { e with
          header := { e.header with number := some (x + 1#32) } }))).setCtrl
        { s.ctrl with highest := if s.ctrl.highest < x + 1#32 then x + 1#32 else s.ctrl.highest } := by
  have hraised : (raiseHighest (x + 1#32) s).ctrl.current = some o := by rw [raiseHighest_eq]; exact ho
  have hslot : (raiseHighest (x + 1#32) s).store.slot o.slot = .filling e := by rw [raiseHighest_eq]; exact he
  unfold renumberByBeacon
  rw [ho, openEpisode_of_filling ho he]
  simp only [hn]
  rw [if_pos ⟨hc, hle⟩, if_neg hx]
  rw [mapHeader_of_filling hraised hslot, raiseHighest_eq]
  rfl

/-- A beacon's number that reaches no unannounced claim is taken as the highest at most (R92, R110). -/
theorem renumberByBeacon_of_other {s : State} {x : Word32}
    (h : ¬ ∃ o e n, s.ctrl.current = some o ∧ s.store.slot o.slot = .filling e ∧ o.claim = .unannounced ∧
      e.header.number = some n ∧ n ≤ x) : renumberByBeacon x s = raiseHighest x s := by
  unfold renumberByBeacon
  split
  · rename_i o e ho hopen
    obtain ⟨o', ho', he⟩ := openEpisode_eq_some_iff.1 hopen
    obtain rfl : o' = o := Option.some.inj (ho'.symm.trans ho)
    split
    · exact if_neg fun ⟨hc, hle⟩ => h ⟨o', e, _, ho, he, hc, ‹_›, hle⟩
    · rfl
  · rfl

/-- A claim that a beacon's number has reached is renumbered above it, or gives up its number (R110). -/
theorem keepsNumbering_renumberByBeacon (x : Word32) (s : State) : KeepsNumbering s (renumberByBeacon x s) := by
  by_cases h : ∃ o e n, s.ctrl.current = some o ∧ s.store.slot o.slot = .filling e ∧ o.claim = .unannounced ∧
      e.header.number = some n ∧ n ≤ x
  · obtain ⟨o, e, n, ho, he, hc, hn, hle⟩ := h
    by_cases hx : x = Word32.limit
    · subst hx
      have hraise := (captureFrame_raiseHighest Word32.limit s).highest
      rw [raiseHighest_eq] at hraise
      rw [renumberByBeacon_of_limit ho he hc hn]
      refine keepsNumbering_of_renumbered ho he rfl rfl rfl hraise (fun _ _ => nofun) fun hs _ f hf => ?_
      cases hf
      exact hs.below_number ho he hn
    · have hraise := (captureFrame_raiseHighest (x + 1#32) s).highest
      have hreach := le_raiseHighest (x + 1#32) s
      have hnext := Word32.lt_succ_of_ne_limit hx
      rw [raiseHighest_eq] at hraise hreach
      rw [renumberByBeacon_of_reached ho he hc hn hle hx]
      refine keepsNumbering_of_renumbered ho he rfl ho rfl hraise ?_ nofun
      rintro hs _ ⟨⟩
      exact ⟨hreach, (hs.below_number ho he hn).mono (BitVec.le_trans hle (BitVec.le_of_lt hnext))⟩
  · rw [renumberByBeacon_of_other h]
    exact (leavesNumbers_raiseHighest x s).keeps

/-! ### The host's commands and restarts -/

theorem Store.select_slots (st : Store) (b : Byte) : (st.select b).1.slots = st.slots := by
  unfold Store.select
  split
  · rfl
  · split <;> rfl

theorem Store.readRecords_slots (st : Store) (n : Nat) : (st.readRecords n).1.slots = st.slots := by
  unfold Store.readRecords
  split
  · rfl
  · split <;> rfl

/-- A slot released was COMPLETE, and its number leaves the store (R146). -/
theorem keepsNumbering_release {i : Fin 8} {e : Episode} {s : State} (h : s.store.slot i = .complete e) :
    KeepsNumbering s (s.setStore (s.store.release i e)) := by
  have hnumber : ∀ j n, (s.store.release i e).numberAt j = some n → j ≠ i ∧ s.store.numberAt j = some n := by
    intro j n hj
    by_cases hji : j = i
    · rw [hji, Store.numberAt, Store.release_slot_self] at hj; cases hj
    · rw [Store.numberAt, Store.release_slot_ne _ _ (Ne.symm hji)] at hj
      exact ⟨hji, hj⟩
  refine ⟨fun hs j => ?_, fun hs ⟨hdistinct, hbounds, habove⟩ => ⟨fun j l n hj hl => ?_, fun j n hj => ?_,
    fun o ho j n hj hn => ?_⟩⟩
  · refine Iff.trans ?_ (hs j)
    rw [State.setStore_store]
    by_cases hji : j = i
    · rw [hji, Store.release_slot_self, h]
      exact iff_of_false Slot.not_isFilling_free (Slot.not_isFilling_complete e)
    · rw [Store.release_slot_ne _ _ (Ne.symm hji)]
  · exact hdistinct j l n (hnumber j n hj).2 (hnumber l n hl).2
  · exact hbounds j n (hnumber j n hj).2
  · obtain ⟨ep, hep⟩ := hs.filling ho
    have hio : i ≠ o.slot := fun heq => by rw [heq, hep] at h; cases h
    have hopen : (s.setStore (s.store.release i e)).store.numberAt o.slot = s.store.numberAt o.slot := by
      rw [State.setStore_store, Store.numberAt, Store.release_slot_ne _ _ hio, Store.numberAt]
    rw [hopen]
    exact habove o ho j n hj (hnumber j n hn).2

theorem keepsNumbering_of_powerOn {s t : State} (hstore : t.store = emptyStore) (hctrl : t.ctrl = powerOnController) :
    KeepsNumbering s t := by
  have hfree : ∀ i, t.store.slot i = .free := fun i => by simp [hstore, Store.slot, emptyStore]
  have hnumber : ∀ i, t.store.numberAt i = none := fun i => by rw [Store.numberAt, hfree]; rfl
  have hcurrent : t.ctrl.current = none := by rw [hctrl]; rfl
  refine ⟨fun _ => openSlotSound_of_none hcurrent fun i => by rw [hfree]; exact Slot.not_isFilling_free,
    fun _ _ => ⟨fun i j n hi => ?_, fun i n hi => ?_, fun o ho => ?_⟩⟩
  · rw [hnumber] at hi; cases hi
  · rw [hnumber] at hi; cases hi
  · rw [hcurrent] at ho; cases ho

/-! ### The statement -/

/-- Every elementary change to the episodes keeps the numbering. -/
theorem episodeClosed_keepsNumbering : EpisodeClosed KeepsNumbering where
  trans := KeepsNumbering.trans
  aside h := (LeavesNumbers.of_same h).keeps
  writeOne := keepsNumbering_writeOne
  close := keepsNumbering_closeCurrent
  openOriginator c cs ov i _ ho hlimit _ _ := keepsNumbering_openOriginator c cs ov i ho hlimit
  openLocal c x i _ ho _ _ := keepsNumbering_openLocal c x i ho
  addCause c s := (leavesNumbers_addCause c s).keeps
  timeStepped s := by
    apply LeavesNumbers.keeps
    exact leavesNumbers_mapHeader s fun _ => rfl
  trigger := keepsNumbering_handleTrigger
  beacon := keepsNumbering_renumberByBeacon
  announce s := (leavesNumbers_announceClaim s).keeps
  overtake := keepsNumbering_claimOvertakenByMute
  release _ _ _ := keepsNumbering_release
  select b s := by
    apply LeavesNumbers.keeps
    exact .of_slots (s.store.select_slots b) rfl (BitVec.le_refl _)
  readRecords n s := by
    apply LeavesNumbers.keeps
    exact .of_slots (s.store.readRecords_slots n) rfl (BitVec.le_refl _)
  deselect s := by
    apply LeavesNumbers.keeps
    exact .of_slots rfl rfl (BitVec.le_refl _)
  powerOn := keepsNumbering_of_powerOn

/-- Settles O9: each change that an event makes to the episodes keeps slot and numbers sound, and so does every step. -/
theorem openSlotAndNumbersKept : Obligations.OpenSlotAndNumbersKept :=
  ⟨fun _ _ hs hstep => (episodeClosed_keepsNumbering.step hstep).slots hs,
    fun _ _ hs hn hstep => (episodeClosed_keepsNumbering.step hstep).numbers hs hn⟩

end Sys2Proof.Machine
end

section
/-! PROOFS. The close of the open episode, by time and by the host (R64, R114 to R116, R167). -/

namespace Sys2Proof.Machine

open Sys2Proof.Machine.Claims

/-! ### The examination that finds nothing to release (R124) -/

/-- Only ACTIVE, with no episode open and group busy false, is the register released (R124). -/
theorem examineRegister_of_not_free {s : State}
    (h : s.station.mode ≠ .active ∨ s.ctrl.current ≠ none ∨ s.ctrl.groupBusy = true) : examineRegister s = s := by
  rcases examineRegister_cases s with hsame | ⟨_, _, hactive, hnone, hbusy, _⟩
  · exact hsame
  · rcases h with h | h | h
    · exact absurd hactive h
    · exact absurd hnone h
    · exact absurd (hbusy.symm.trans h) Bool.false_ne_true

theorem examineAfter_of_stays {t : State} (h : examineRegister t = t) (s : State) : examineAfter s t = t := by
  rcases examineAfter_cases s t with heq | heq <;> rw [heq]
  exact h

/-- While an episode is open nothing is released (R124). -/
theorem examineAfter_of_open {t : State} {o : OpenEpisode} (h : t.ctrl.current = some o) (s : State) :
    examineAfter s t = t :=
  examineAfter_of_stays (examineRegister_of_not_free (.inr (.inl (h ▸ Option.some_ne_none o)))) s

theorem examineRegister_of_registerStays {s : State} (h : RegisterStays s) : examineRegister s = s := by
  rcases h with h | h | h
  · exact examineRegister_of_empty h
  · exact examineRegister_of_not_free (.inl h)
  · exact examineRegister_of_not_free (.inr (.inr h))

/-! ### The close (R114) -/

/-- A close withdraws the TRIGGER, listed or in attempt (R64, R114). -/
theorem withdraw_eq_closed (o : OpenEpisode) (e : Episode) (status : EndStatus) (s : State) :
    s.link.withdraw = (closed o e status s).link := by
  unfold Link.withdraw closed
  cases s.link.attempt with
  | none => rfl
  | some a =>
    obtain ⟨m, w⟩ := a
    cases m <;> rfl

/-- What a close but that of a restart makes of the station (R114). -/
theorem closeCurrent_eq_closed {s : State} {o : OpenEpisode} {e : Episode} {status : EndStatus}
    (ho : s.ctrl.current = some o) (he : s.store.slot o.slot = .filling e) (hs : status ≠ .cutByRestart) :
    closeCurrent status s = closed o e status s := by
  have hclosed : (((s.setStore (s.store.complete o.slot status)).setCtrl
      { s.ctrl with current := none }).withdrawTrigger).raise .closed = closed o e status s := by
    rw [Store.complete_of_filling he]
    exact congrArg (fun l => { closed o e status s with link := l }) (withdraw_eq_closed o e status s)
  rw [← hclosed, closeCurrent, ho]
  cases status with
  | cutByRestart => exact absurd rfl hs
  | full | timed | cutByNext | cutByHost | truncated => rfl

/-- A close at which the register is not released (R114, R124). -/
theorem closeEpisode_eq_closed {s : State} {o : OpenEpisode} {e : Episode} {status : EndStatus}
    (ho : s.ctrl.current = some o) (he : s.store.slot o.slot = .filling e) (hs : status ≠ .cutByRestart)
    (hr : RegisterStays s) : closeEpisode status s = closed o e status s := by
  have hstays : RegisterStays (closed o e status s) := hr
  rw [closeEpisode, closeCurrent_eq_closed ho he hs]
  exact examineAfter_of_stays (examineRegister_of_registerStays hstays) s

/-! ### The two events -/

theorem exec_postTimeExpiry {s : State} (hr : s.running = true) (hdue : s.postTimeDue = true) :
    exec .postTimeExpiry s = .next (settle (closeEpisode .timed s)) :=
  if_pos (by rw [hr, hdue]; rfl)

theorem exec_closeEpisode {s : State} {o : OpenEpisode} {e : Episode} (h : Listens s) (hm : s.station.mode ≠ .config)
    (ho : s.ctrl.current = some o) (he : s.store.slot o.slot = .filling e) :
    exec .closeEpisode s = .next (settle ((closeEpisode .cutByHost s).answer
      { result := .ok, body := .closed o.slot e.header.number })) := by
  show execCloseEpisode s = _
  rw [execCloseEpisode, transact_of_listens h, if_neg hm, openEpisode_of_filling ho he, ho]

theorem exec_closeEpisode_of_none {s : State} (h : Listens s) (hm : s.station.mode ≠ .config)
    (ho : s.ctrl.current = none) :
    exec .closeEpisode s = .next (s.answer { result := .notFound, body := .empty }) := by
  show execCloseEpisode s = _
  rw [execCloseEpisode, transact_of_listens h, if_neg hm, ho]
  rfl

theorem exec_closeEpisode_of_config {s : State} (h : Listens s) (hm : s.station.mode = .config) :
    exec .closeEpisode s = .next (s.answer { result := .refusedState, body := .empty }) := by
  show execCloseEpisode s = _
  rw [execCloseEpisode, transact_of_listens h, if_pos hm]
  rfl

/-- Settles O26: the close is that of R114, the register stays, and no offer waits. -/
theorem episodeClosesByTimeOrHost : Obligations.EpisodeClosesByTimeOrHost := by
  refine ⟨fun s o e hs hr ho he => ⟨fun hrun hdue => ?_, fun hl hm => ?_⟩, fun s hl hm ho => ?_, fun s hl hm => ?_⟩
  · rw [exec_postTimeExpiry hrun (s.postTimeDue_iff.2 ⟨o, ho, hdue⟩), closeEpisode_eq_closed ho he (by decide) hr,
      settle_of_no_offers]
    exact hs
  · rw [exec_closeEpisode hl hm ho he, closeEpisode_eq_closed ho he (by decide) hr, settle_of_no_offers]
    exact hs
  · exact exec_closeEpisode_of_none hl hm ho
  · exact exec_closeEpisode_of_config hl hm

end Sys2Proof.Machine
end

section
/-! PROOFS. An opening (R101, R137): the slot it takes, what it makes of the station, and its rise of OPEN. -/

namespace Sys2Proof.Machine

open Sys2Proof.Machine.Claims

/-! ### The lowest-indexed FREE slot (R137) -/

theorem Store.lowestFree_eq_none {st : Store} (h : ∀ i, st.slot i ≠ .free) : st.lowestFree = none :=
  List.find?_eq_none.2 fun i _ hi => h i ((Slot.isFree_iff _).1 hi)

theorem Store.lowestFree_eq_some {st : Store} {i : Fin 8} (h : st.slot i = .free)
    (hlow : ∀ j, j < i → st.slot j ≠ .free) : st.lowestFree = some i := by
  cases hl : st.lowestFree with
  | none => exact absurd ((Slot.isFree_iff _).2 h) (List.find?_eq_none.1 hl i (List.mem_finRange i))
  | some j =>
    rcases lt_trichotomy j i with hji | hji | hij
    · exact absurd (Store.slot_of_lowestFree hl) (hlow j hji)
    · rw [hji]
    · exact absurd h (Store.not_free_below hl i hij)

/-- There is room for an opening (R98, R108, R137). -/
theorem Store.hasRoom_of_free {st : Store} {i : Fin 8} (h : st.slot i = .free) (hlow : ∀ j, j < i → st.slot j ≠ .free)
    (hf : st.freeEntries ≠ 0) : st.hasRoom = true := by
  simp [Store.hasRoom, Store.lowestFree_eq_some h hlow, Nat.one_le_iff_ne_zero, hf]

theorem Store.hasRoom_eq_false {st : Store} (h : (∀ i, st.slot i ≠ .free) ∨ st.freeEntries = 0) :
    st.hasRoom = false := by
  rcases h with h | h
  · simp [Store.hasRoom, Store.lowestFree_eq_none h]
  · simp [Store.hasRoom, h]

/-! ### BUSY, the clear and OPEN, as updates of the state -/

/-- What an evaluation of own BUSY makes of the station (R119 to R121). -/
theorem updateBusy_eq (s : State) :
    updateBusy s = { s with
      ctrl := { s.ctrl with
        ownBusy := s.busyByCounts
        groupBusy := if s.busyByCounts = s.ctrl.ownBusy then s.ctrl.groupBusy else s.busyByCounts || s.peersBusy }
      link := if s.busyByCounts = s.ctrl.ownBusy then s.link
        else if s.station.mode.transmits then s.link.requestBeacon else s.link } := by
  by_cases h : s.busyByCounts = s.ctrl.ownBusy
  · simp [updateBusy, h]
  · simp only [updateBusy, beq_iff_eq, h, if_false]
    unfold State.requestBeacon
    split
    · rename_i hsend
      rw [if_pos (show s.station.mode.transmits = true from hsend)]
      rfl
    · rename_i hsend
      rw [if_neg (show ¬ s.station.mode.transmits = true from hsend)]
      rfl

/-- A clear sets counters, and may bring an offer (R11, R12). -/
theorem clearCounters_eq (m : Mask) (s : State) :
    clearCounters m s =
      { s with counters := clearedBy m s.counters, offers := (clearCounters m s).offers } := by
  unfold clearCounters
  dsimp only
  split <;> rfl

theorem riseOpen_eq (s : State) : s.riseOpen = s.setOpenRises (s.openRises + s.running.toNat) := by
  unfold State.riseOpen
  split
  · rename_i h; rw [h]; rfl
  · rename_i h; rw [Bool.eq_false_iff.2 h]; rfl

/-! ### What an opening makes of the station -/

/-- The station at an opening before its counters are cleared: slot, pre-records, anchor and timer (R101). -/
def anchored (o : Opening) (i : Fin 8) (s : State) : State :=
  { s with
    store := { s.store.setSlot i (.filling (openedEpisode o i s)) with
      freeEntries := s.store.freeEntries - (openedEpisode o i s).records.length
      order := s.store.order ++ [i] }
    ring := s.ring.put (stamp (.anchor o.cause o.flag) s)
    ctrl := { s.ctrl with
      gapMark := false
      current := some { slot := i, claim := o.claim, floor := o.floor, timer := s.now } } }

theorem openIn_eq_updateBusy (o : Opening) (i : Fin 8) (s : State) :
    openIn o i s = updateBusy (clearCounters s.config.items.resetMask (anchored o i s)) := rfl

/-- What an opening makes of the station, the offer of its clear set aside (R101). -/
theorem openIn_eq (o : Opening) (i : Fin 8) (s : State) :
    openIn o i s = { anchored o i s with
      counters := clearedBy s.config.items.resetMask s.counters
      offers := (clearCounters s.config.items.resetMask (anchored o i s)).offers
      ctrl := { (anchored o i s).ctrl with
        ownBusy := (anchored o i s).busyByCounts
        groupBusy := if (anchored o i s).busyByCounts = s.ctrl.ownBusy then s.ctrl.groupBusy
          else (anchored o i s).busyByCounts || s.peersBusy }
      link := if (anchored o i s).busyByCounts = s.ctrl.ownBusy then s.link else s.requestBeacon.link } := by
  rw [openIn_eq_updateBusy, updateBusy_eq, clearCounters_eq, State.requestBeacon_link]
  rfl

theorem openedEpisode_length (o : Opening) (i : Fin 8) (s : State) :
    (openedEpisode o i s).records.length =
      min s.config.items.preCount (min s.ring.records.length (s.store.freeEntries - 1)) + 1 := by
  simp only [openedEpisode, Ring.newest, preRecordCount, List.length_append, List.length_drop, List.length_singleton]
  omega

/-- An opening with a free entry is what the statements call so, whatever OPEN does (R101, R102, R137). -/
theorem opened_openIn (o : Opening) (i : Fin 8) {s : State} (hf : s.store.freeEntries ≠ 0) (k : Nat) :
    Opened o i s (((openIn o i s).setOffers s.offers).setOpenRises k) := by
  have hlength := openedEpisode_length o i s
  rw [openIn_eq]
  refine ⟨Store.slot_setSlot_self s.store i _, fun j hj => Store.slot_setSlot_ne s.store _ hj.symm, ?_, rfl, rfl, rfl,
    fun c => clearedBy_get _ _ c, rfl, rfl⟩
  show s.store.freeEntries - (openedEpisode o i s).records.length +
    min s.config.items.preCount (min s.ring.records.length (s.store.freeEntries - 1)) + 1 = s.store.freeEntries
  omega

/-- An opening that finds no counter to clear brings no offer (R14, R48). -/
theorem openIn_quiet (o : Opening) (i : Fin 8) {s : State} (hs : OffersTaken s) (hq : OpensQuietly s) :
    (openIn o i s).riseOpen.offers = [] ∨ (openIn o i s).riseOpen.units = disarmedUnits := by
  rw [State.riseOpen_offers, State.riseOpen_units]
  rcases hq with hq | hq
  · left
    rw [openIn_eq_updateBusy, updateBusy_offers, clearCounters_of_unchanged]
    · exact hs
    · exact (changedBy_eq_nil_iff _ _).2 hq
  · exact .inr ((captureFrame_openIn o i s).units.trans hq)

/-- OPEN rises once with an opening, in a station that takes events (R101, R172). -/
theorem opened_riseOpen (o : Opening) (i : Fin 8) {s : State} (hr : s.running = true) (hs : OffersTaken s)
    (hf : s.store.freeEntries ≠ 0) :
    let t := (openIn o i s).riseOpen.setOffers []
    t.openPin = .high ∧ t.openRises = s.openRises + 1 ∧ Opened o i s t := by
  have hrun : (openIn o i s).running = true := by rw [openIn_eq]; exact hr
  have hrises : (openIn o i s).openRises = s.openRises := by rw [openIn_eq]; rfl
  have hopened := opened_openIn o i hf (s.openRises + 1)
  rw [hs] at hopened
  have hcurrent := openIn_current o i s
  generalize openIn o i s = u at hrun hrises hopened hcurrent
  have hrisen : u.riseOpen.setOffers [] = (u.setOffers []).setOpenRises (s.openRises + 1) := by
    rw [riseOpen_eq, hrun, hrises]
    rfl
  have hpin : u.openPin = .high := by simp [State.openPin, hrun, hcurrent]
  rw [hrisen]
  exact ⟨hpin, rfl, hopened⟩

end Sys2Proof.Machine
end

section
/-! PROOFS. SOFTWARE TRIGGER: the cases of R97 with and without an open episode (R98 to R100, R122, R123, R166). -/

namespace Sys2Proof.Machine

open Sys2Proof.Machine.Claims

/-! ### The cases of a trigger request (R97) -/

theorem held_eq_false {s : State} (hl : s.ctrl.localHold = false) (hg : s.ctrl.groupHold = false) :
    s.held = false := by
  rw [State.held, hl, hg]
  rfl

theorem held_eq_true {s : State} (h : s.ctrl.localHold = true ∨ s.ctrl.groupHold = true) : s.held = true := by
  rw [State.held, Bool.or_eq_true]
  exact h

/-- ACTIVE and MUTE are the station states in which requests are taken (R97). -/
theorem takesRequests {m : Mode} (h : m = .active ∨ m.isMute = true) : ¬ (m = .config ∨ m = .rollCall) := by
  rcases h with rfl | h
  · simp
  · obtain ⟨r, rfl⟩ := (Mode.isMute_iff m).1 h
    simp

section

variable {s : State} (c : OwnCause) (x : Time)

theorem request_refused (h : s.station.mode = .config ∨ s.station.mode = .rollCall) : request c x s = (s, none) :=
  if_pos h

variable (hm : s.station.mode = .active ∨ s.station.mode.isMute = true)

include hm

/-- Case 1 of R97. -/
theorem request_of_held (hh : s.held = true) :
    request c x s = (suppress .hold [c] s, some (.suppressed .hold)) := by
  rw [request, if_neg (takesRequests hm), if_pos hh]

/-- Case 2 of R97. -/
theorem request_of_open (hh : s.held = false) {o : OpenEpisode} {e : Episode} (ho : s.ctrl.current = some o)
    (he : s.store.slot o.slot = .filling e) :
    request c x s = (s.setStore (s.store.setSlot o.slot (.filling { e with header := e.header.addCause (.own c x) })),
      some (if e.header.causesFull then .notAdded o.slot else .added o.slot)) := by
  rw [← mapHeader_of_filling ho he (fun h => h.addCause (.own c x)), request, if_neg (takesRequests hm), hh,
    if_neg Bool.false_ne_true, ho, openEpisode_of_filling ho he]

/-- Cases 3 to 5 of R97. -/
theorem request_of_no_episode (hh : s.held = false) (ho : s.ctrl.current = none) :
    request c x s = ((requestNoEpisode c x s).1, some (requestNoEpisode c x s).2) := by
  rw [request, if_neg (takesRequests hm), hh, if_neg Bool.false_ne_true, ho]

end

theorem requestNoEpisode_of_mute {s : State} (h : s.station.mode.isMute = true) (c : OwnCause) (x : Time) :
    requestNoEpisode c x s = openLocal c x s := if_pos h

theorem requestNoEpisode_of_busy {s : State} (hm : s.station.mode = .active) (h : s.ctrl.groupBusy = true)
    (c : OwnCause) (x : Time) : requestNoEpisode c x s = holdRequest c x s := by
  rw [requestNoEpisode, hm, Mode.isMute, if_neg Bool.false_ne_true, if_pos h]

theorem requestNoEpisode_of_free {s : State} (hm : s.station.mode = .active) (h : s.ctrl.groupBusy = false)
    (c : OwnCause) (x : Time) : requestNoEpisode c x s = originate (c, x) [] false s := by
  rw [requestNoEpisode, hm, Mode.isMute, if_neg Bool.false_ne_true, h, if_neg Bool.false_ne_true]

/-! ### Origination and LOCAL episodes (R98, R99) -/

/-- With no episode open, suppression writes its record and sets its flag (R97, R169). -/
theorem suppressAll_of_no_episode (f : SuppressedFlag) (c : OwnCause) {s : State} (h : s.ctrl.current = none) :
    suppressAll f [c] s = suppressed f [c] s := by
  show (writeAll _ s).raise .suppressed = _
  rw [writeAll_of_no_episode _ s h]
  rfl

theorem originate_of_limit {s : State} (ho : s.ctrl.current = none) (h : s.ctrl.highest = 4294967295#32) (c : OwnCause)
    (x : Time) : originate (c, x) [] false s =
      (suppressed .numbersExhausted [c] s, .suppressed .numbersExhausted) := by
  rw [originate, if_pos (show s.ctrl.highest = Word32.limit from h), ← suppressAll_of_no_episode .numbersExhausted c ho]
  rfl

theorem originate_of_no_room {s : State} (ho : s.ctrl.current = none) (h : s.ctrl.highest ≠ 4294967295#32)
    (hroom : (∀ i, s.store.slot i ≠ .free) ∨ s.store.freeEntries = 0) (c : OwnCause) (x : Time) :
    originate (c, x) [] false s = (suppressed .noSlot [c] s, .suppressed .noSlot) := by
  rw [originate, if_neg (show s.ctrl.highest ≠ Word32.limit from h), ← suppressAll_of_no_episode .noSlot c ho]
  split
  · rfl
  · rename_i i hi
    have hfree := Store.slot_of_lowestFree hi
    rw [if_pos (hroom.resolve_left fun hfull => hfull i hfree)]
    rfl

/-- The next number, an opening in the lowest FREE slot, its rise of OPEN, and its TRIGGER listed (R98). -/
theorem originate_of_room {s : State} {i : Fin 8} (h : s.ctrl.highest ≠ 4294967295#32) (hfree : s.store.slot i = .free)
    (hlow : ∀ j, j < i → s.store.slot j ≠ .free) (hf : s.store.freeEntries ≠ 0) {c : OwnCause} {x : Time} {u : State}
    (hu : (openIn (originatorOpening (s.ctrl.highest + 1#32) s.station.address (c, x) [] false) i
      (s.setCtrl { s.ctrl with highest := s.ctrl.highest + 1#32 })).riseOpen = u) :
    originate (c, x) [] false s =
      (u.setLink (listTrigger u.link), .opened i (some (s.ctrl.highest + 1#32))) := by
  subst hu
  simp only [originate, if_neg (show s.ctrl.highest ≠ Word32.limit from h), Store.lowestFree_eq_some hfree hlow,
    if_neg hf]
  rfl

theorem openLocal_of_no_room {s : State} (ho : s.ctrl.current = none)
    (hroom : (∀ i, s.store.slot i ≠ .free) ∨ s.store.freeEntries = 0) (c : OwnCause) (x : Time) :
    openLocal c x s = (suppressed .noSlot [c] s, .suppressed .noSlot) := by
  rw [← suppress_of_no_episode .noSlot [c] s (List.cons_ne_nil c []) ho, openLocal]
  split
  · rfl
  · rename_i i hi
    have hfree := Store.slot_of_lowestFree hi
    rw [if_pos (hroom.resolve_left fun hfull => hfull i hfree)]

theorem openLocal_of_room {s : State} {i : Fin 8} (hfree : s.store.slot i = .free)
    (hlow : ∀ j, j < i → s.store.slot j ≠ .free) (hf : s.store.freeEntries ≠ 0) (c : OwnCause) (x : Time) :
    openLocal c x s = ((openIn (localOpening s.ctrl.highest c x) i s).riseOpen, .opened i none) := by
  simp only [openLocal, Store.lowestFree_eq_some hfree hlow, if_neg hf]

/-! ### The transaction (R166) -/

theorem listens_of_running {s : State} (hr : s.running = true) (hb : s.port.bus ≠ .cutOff) : Listens s := ⟨hb, .inl hr⟩

theorem exec_softwareTrigger {s u : State} {d : Decision} (h : Listens s)
    (hreq : request .software s.time.group s = (u, some d)) :
    exec .softwareTrigger s = .next (settle (u.answer (triggerAnswer d s))) := by
  show execSoftwareTrigger s = _
  rw [execSoftwareTrigger, transact_of_listens h, hreq]
  rfl

/-- A decision that brings no offer. -/
theorem exec_softwareTrigger_of_quiet {s u : State} {d : Decision} (h : Listens s)
    (hreq : request .software s.time.group s = (u, some d)) (hu : u.offers = []) :
    exec .softwareTrigger s = .next (u.answer (triggerAnswer d s)) := by
  rw [exec_softwareTrigger h hreq, settle_of_no_offers]
  exact hu

theorem exec_softwareTrigger_refused {s : State} (h : Listens s)
    (hm : s.station.mode = .config ∨ s.station.mode = .rollCall) :
    exec .softwareTrigger s = .next (s.answer { result := .refusedState, body := .empty }) := by
  show execSoftwareTrigger s = _
  rw [execSoftwareTrigger, transact_of_listens h, request_refused .software s.time.group hm]
  rfl

/-- Settles O29: the three outcomes of an origination. -/
theorem softwareTriggerOriginates : Obligations.SoftwareTriggerOriginates := by
  rintro s ⟨hr, hs⟩ hb hm hl hg ho hbusy
  have hlistens := listens_of_running hr hb
  have hreq : ∀ u d, originate (.software, s.time.group) [] false s = (u, d) →
      request .software s.time.group s = (u, some d) := fun u d h => by
    rw [request_of_no_episode _ _ (.inl hm) (held_eq_false hl hg) ho, requestNoEpisode_of_free hm hbusy, h]
  refine ⟨fun h => ?_, fun h hroom => ?_, fun i h hq hfree hlow hf => ?_⟩
  · exact exec_softwareTrigger_of_quiet hlistens (hreq _ _ (originate_of_limit ho h _ _)) hs
  · exact exec_softwareTrigger_of_quiet hlistens (hreq _ _ (originate_of_no_room ho h hroom _ _)) hs
  · intro n
    have hquiet := openIn_quiet (originatorOpening n s.station.address (.software, s.time.group) [] false) i
      (s := s.setCtrl { s.ctrl with highest := n }) hs hq
    have hopened := opened_riseOpen (originatorOpening n s.station.address (.software, s.time.group) [] false) i
      (s := s.setCtrl { s.ctrl with highest := n }) hr hs hf
    generalize hu : (openIn (originatorOpening n s.station.address (.software, s.time.group) [] false) i
      (s.setCtrl { s.ctrl with highest := n })).riseOpen = u at hquiet hopened
    refine ⟨u.setOffers [], ?_, hopened⟩
    rw [exec_softwareTrigger hlistens (hreq _ _ (originate_of_room h hfree hlow hf hu)), settle_of_quiet]
    · rfl
    · exact hquiet

/-- Settles O30: a LOCAL opening, or its suppression. -/
theorem softwareTriggerOpensLocalInMute : Obligations.SoftwareTriggerOpensLocalInMute := by
  rintro s ⟨hr, hs⟩ hb hm hl hg ho
  have hlistens := listens_of_running hr hb
  have hreq : ∀ u d, openLocal .software s.time.group s = (u, d) →
      request .software s.time.group s = (u, some d) := fun u d h => by
    rw [request_of_no_episode _ _ (.inr hm) (held_eq_false hl hg) ho, requestNoEpisode_of_mute hm, h]
  refine ⟨fun hroom => ?_, fun i hq hfree hlow hf => ?_⟩
  · exact exec_softwareTrigger_of_quiet hlistens (hreq _ _ (openLocal_of_no_room ho hroom _ _)) hs
  · have hquiet := openIn_quiet (localOpening s.ctrl.highest .software s.time.group) i hs hq
    have hopened := opened_riseOpen (localOpening s.ctrl.highest .software s.time.group) i hr hs hf
    have hlocal := openLocal_of_room hfree hlow hf .software s.time.group
    generalize (openIn (localOpening s.ctrl.highest .software s.time.group) i s).riseOpen = u
      at hquiet hopened hlocal
    refine ⟨u.setOffers [], ?_, hopened⟩
    rw [exec_softwareTrigger hlistens (hreq _ _ hlocal), settle_of_quiet]
    · rfl
    · exact hquiet

/-! ### Requests that open nothing (R97, R100, R122, R123) -/

theorem Header.addCause_of_lt {h : Header} (hc : h.causes.length < 4) (c : CauseEntry) :
    h.addCause c = { h with causes := h.causes ++ [c] } := if_pos hc

theorem Header.addCause_of_full {h : Header} (hc : 4 ≤ h.causes.length) (c : CauseEntry) :
    h.addCause c = { h with flags := { h.flags with causesOverflow := true } } := if_neg (Nat.not_lt.2 hc)

theorem holdRequest_of_no_limit {s : State} (h : s.config.items.holdLimit = 0) (ho : s.ctrl.current = none)
    (c : OwnCause) (x : Time) : holdRequest c x s = (suppressed .noSlot [c] s, .suppressed .noSlot) := by
  rw [holdRequest, if_pos h, suppress_of_no_episode .noSlot [c] s (List.cons_ne_nil c []) ho]

theorem holdRequest_of_empty {s : State} (h : s.config.items.holdLimit ≠ 0) (hreg : s.ctrl.register = none)
    (c : OwnCause) (x : Time) : holdRequest c x s =
      (s.setCtrl { s.ctrl with register := some { causes := [(c, x)], since := s.now, overflow := false } }, .held) := by
  simp only [holdRequest, if_neg h, hreg]

theorem holdRequest_of_lt {s : State} {r : HeldTrigger} (h : s.config.items.holdLimit ≠ 0)
    (hreg : s.ctrl.register = some r) (hc : r.causes.length < 4) (c : OwnCause) (x : Time) :
    holdRequest c x s =
      (s.setCtrl { s.ctrl with register := some { r with causes := r.causes ++ [(c, x)] } }, .merged) := by
  simp only [holdRequest, if_neg h, hreg, if_pos hc]

theorem holdRequest_of_full {s : State} {r : HeldTrigger} (h : s.config.items.holdLimit ≠ 0)
    (hreg : s.ctrl.register = some r) (hc : 4 ≤ r.causes.length) (c : OwnCause) (x : Time) :
    holdRequest c x s = (s.setCtrl { s.ctrl with register := some { r with overflow := true } }, .notMerged) := by
  simp only [holdRequest, if_neg h, hreg, if_neg (Nat.not_lt.2 hc)]

/-- Settles O31: the refusal, and cases 1, 2 and 4 of R97. -/
theorem softwareTriggerOpensNothing : Obligations.SoftwareTriggerOpensNothing := by
  refine ⟨⟨fun s hl hm => exec_softwareTrigger_refused hl hm, fun s hl hs hm hh ho => ?_,
    fun s o e hl hs hm hlocal hgroup ho he => ?_⟩, fun s hl hs hm hlocal hgroup ho hbusy => ?_⟩
  · refine exec_softwareTrigger_of_quiet hl ((request_of_held _ _ hm (held_eq_true hh)).trans ?_) hs
    rw [suppress_of_no_episode .hold [.software] s (List.cons_ne_nil _ []) ho]
  · have hreq := request_of_open .software s.time.group hm (held_eq_false hlocal hgroup) ho he
    refine ⟨fun hc => ?_, fun hc => ?_⟩
    · rw [Header.addCause_of_lt hc, Header.causesFull, decide_eq_false (Nat.not_le.2 hc)] at hreq
      exact exec_softwareTrigger_of_quiet hl hreq hs
    · rw [Header.addCause_of_full hc, Header.causesFull, decide_eq_true hc] at hreq
      exact exec_softwareTrigger_of_quiet hl hreq hs
  · have hreq : ∀ u d, holdRequest .software s.time.group s = (u, d) →
        request .software s.time.group s = (u, some d) := fun u d h => by
      rw [request_of_no_episode _ _ (.inl hm) (held_eq_false hlocal hgroup) ho, requestNoEpisode_of_busy hm hbusy, h]
    refine ⟨fun h => ?_, fun h hreg => ?_, fun r h hreg hc => ?_, fun r h hreg hc => ?_⟩
    · exact exec_softwareTrigger_of_quiet hl (hreq _ _ (holdRequest_of_no_limit h ho _ _)) hs
    · exact exec_softwareTrigger_of_quiet hl (hreq _ _ (holdRequest_of_empty h hreg _ _)) hs
    · exact exec_softwareTrigger_of_quiet hl (hreq _ _ (holdRequest_of_lt h hreg hc _ _)) hs
    · exact exec_softwareTrigger_of_quiet hl (hreq _ _ (holdRequest_of_full h hreg hc _ _)) hs

end Sys2Proof.Machine
end

section
/-! PROOFS. A TRIGGER that is followed, or that finds no episode open (R103, R104, R107 to R109, R127, R172). -/

namespace Sys2Proof.Machine

open Sys2Proof.Machine.Claims

/-! ### The event (R34, R66, R70, R103) -/

/-- A TRIGGER reaches the controller with its sender heard; with no unit armed, its offers are dropped. -/
theorem exec_triggerReceived {m : TriggerMessage} {s : State} (h : Receives s m.sender) (hm : m.number ≠ 0#32)
    (hu : s.units = disarmedUnits) :
    exec (.triggerReceived m) s = .next ((controllerTrigger m (heard m.sender s)).setOffers []) := by
  obtain ⟨hout, hlost⟩ := h
  have hunits : ((controllerTrigger m (heard m.sender s)).bring (.trigger m.sender)).units = disarmedUnits :=
    (captureFrame_controllerTrigger m (heard m.sender s)).units.trans hu
  show execTriggerReceived m s = _
  rw [execTriggerReceived, bne_iff_ne.2 hm, dispatch_of_hearsOut hout, hearPeer_judged hlost,
    settle_of_disarmed _ hunits]
  rfl

theorem exec_triggerReceived_of_quiet {m : TriggerMessage} {s t : State} (h : Receives s m.sender)
    (hm : m.number ≠ 0#32) (hu : s.units = disarmedUnits) (ht : controllerTrigger m (heard m.sender s) = t)
    (hoffers : t.offers = s.offers) : exec (.triggerReceived m) s = .next t := by
  have ⟨⟨⟨_, hs⟩, _⟩, _⟩ := h
  rw [exec_triggerReceived h hm hu, ht, ← show s.offers = [] from hs, ← hoffers]
  rfl

/-! ### Records alone, and the FOLLOWER (R103, R107, R108) -/

theorem handleTrigger_records {c : TriggerCase} {m : TriggerMessage} {s a : State} (ha : triggerActions c m s = a)
    (hnone : a.ctrl.current = none) (hroom : (c.follows && a.store.hasRoom) = false) :
    handleTrigger c m s = numbered m (remoteFlag c a.store.hasRoom) a := by
  subst ha
  rw [handleTrigger_of_no_episode hnone, hroom, if_neg Bool.false_ne_true]

theorem remoteFlag_of_follows {c : TriggerCase} (hf : c.follows = true) : remoteFlag c true = none := by
  cases c with
  | cut => rfl
  | follow => rfl
  | join | renumber | notCaptured | stale | late => cases hf

theorem handleTrigger_follows {c : TriggerCase} {m : TriggerMessage} {s a : State} (hf : c.follows = true)
    (ha : triggerActions c m s = a) (hnone : a.ctrl.current = none) (hroom : a.store.hasRoom = true) :
    handleTrigger c m s = followTrigger c m (numbered m none a) := by
  subst ha
  rw [handleTrigger_of_no_episode hnone, hf, hroom, remoteFlag_of_follows hf]
  rfl

/-- The FOLLOWER's fields are those of the statements (R102, R108, R127). -/
theorem followerOpening_eq_follower (m : TriggerMessage) (r : Option HeldTrigger) :
    followerOpening m r = follower m r := by
  cases r with
  | none => rfl
  | some h => exact congrArg (Opening.mk _ _ _ _ _ · _ _ _ _) (Bool.or_comm _ _)

/-- With room, a FOLLOWER opens in the lowest FREE slot and takes the causes of the register (R108, R127). -/
theorem openFollower_of_room {s : State} {i : Fin 8} (hfree : s.store.slot i = .free)
    (hlow : ∀ j, j < i → s.store.slot j ≠ .free) (hf : s.store.freeEntries ≠ 0) (m : TriggerMessage) :
    openFollower m s =
      openIn (follower m s.ctrl.register) i (s.setCtrl { s.ctrl with register := none }) := by
  rw [openFollower, openLowest, State.setCtrl_store, Store.lowestFree_eq_some hfree hlow,
    followerOpening_eq_follower]
  exact if_neg hf

/-! ### With no episode open -/

/-- Cases that open nothing, with no episode open: the records of the TRIGGER alone (R104, R109). -/
theorem controllerTrigger_records {c : TriggerCase} {m : TriggerMessage} {s : State}
    (hc : triggerCase m.number s = c) (ha : triggerActions c m s = s) (ho : s.ctrl.current = none)
    (hroom : (c.follows && s.store.hasRoom) = false) :
    controllerTrigger m s = numbered m (remoteFlag c s.store.hasRoom) s := by
  rw [controllerTrigger, hc, handleTrigger_records ha ho hroom]
  exact examineAfter_of_calm _ _ ho rfl

/-- An episode opened leaves the register EMPTY, so that no examination releases it (R124, R127). -/
theorem examineAfter_follower {s r : State} {o : Opening} {i : Fin 8} (hr : r.ctrl.register = none) :
    examineAfter s (openIn o i r) = openIn o i r ∧
      examineAfter s (openIn o i r).riseOpen = (openIn o i r).riseOpen := by
  have hempty : (openIn o i r).ctrl.register = none := (openIn_register o i r).trans hr
  exact ⟨examineAfter_of_empty _ _ hempty,
    examineAfter_of_empty _ _ ((congrArg Controller.register (State.riseOpen_ctrl _)).trans hempty)⟩

/-- Settles O41: a FOLLOWER on the records of the TRIGGER, or the records alone. -/
theorem triggerWithoutEpisode : Obligations.TriggerWithoutEpisode := by
  refine ⟨fun m s hrec hm hmode hl hg ho hu hlt => ?_, fun m s hrec hm ho hu => ⟨fun hpast => ?_,
    fun hmode hl hg hle => ?_⟩⟩
  · have hcase : triggerCase m.number (heard m.sender s) = .follow :=
      (triggerCase_of_no_episode (fun h => takesRequests hmode (.inr h)) (held_eq_false (s := heard m.sender s) hl hg)
        (openEpisode_of_no_episode ho) m.number).trans (if_pos hlt)
    refine ⟨fun i hfree hlow hf => ?_, fun hroom => ?_⟩
    · have ⟨⟨⟨hrun, hs⟩, _⟩, _⟩ := hrec
      have hhandle : handleTrigger .follow m (heard m.sender s) =
          followTrigger .follow m (numbered m none (heard m.sender s)) :=
        handleTrigger_follows rfl rfl ho (Store.hasRoom_of_free hfree hlow hf)
      have hopen := openFollower_of_room (s := numbered m none (heard m.sender s)) hfree hlow hf m
      refine ⟨_, ?_, opened_riseOpen (follower m s.ctrl.register) i
        (s := (numbered m none (heard m.sender s)).setCtrl
          { (numbered m none (heard m.sender s)).ctrl with register := none }) hrun hs hf⟩
      rw [exec_triggerReceived hrec hm hu, controllerTrigger, hcase, hhandle, followTrigger, if_neg nofun, hopen,
        (examineAfter_follower rfl).2]
      rfl
    · refine exec_triggerReceived_of_quiet hrec hm hu ?_ rfl
      have hnone := Store.hasRoom_eq_false hroom
      rw [controllerTrigger_records hcase rfl ho (by rw [show (heard m.sender s).store = s.store from rfl, hnone]; rfl)]
      rw [show (heard m.sender s).store = s.store from rfl, hnone]
      rfl
  · have hcase : triggerCase m.number (heard m.sender s) = .notCaptured := by
      rcases hpast with h | h
      · exact triggerCase_of_rollCall h _
      · exact triggerCase_of_held (held_eq_true h) _
    exact exec_triggerReceived_of_quiet hrec hm hu (controllerTrigger_records hcase rfl ho rfl) rfl
  · have hcase : triggerCase m.number (heard m.sender s) = .late :=
      (triggerCase_of_no_episode (fun h => takesRequests hmode (.inr h)) (held_eq_false (s := heard m.sender s) hl hg)
        (openEpisode_of_no_episode ho) m.number).trans (if_neg (BitVec.not_lt.2 hle))
    exact exec_triggerReceived_of_quiet hrec hm hu (controllerTrigger_records hcase rfl ho rfl) rfl

/-! ### A TRIGGER that cuts the open episode (R107) -/

/-- A close frees no slot (R114, R140). -/
theorem closed_slot_free_iff {s : State} {o : OpenEpisode} {e : Episode} (he : s.store.slot o.slot = .filling e)
    (status : EndStatus) (j : Fin 8) : (closed o e status s).store.slot j = .free ↔ s.store.slot j = .free := by
  show (s.store.setSlot o.slot _).slot j = .free ↔ _
  by_cases hj : j = o.slot
  · subst hj; simp [he]
  · rw [Store.slot_setSlot_ne _ _ (Ne.symm hj)]

/-- OPEN stays high where an opening follows the close of the same handling (R107, R172). -/
theorem opened_openHigh (o : Opening) (i : Fin 8) {s : State} (hr : s.running = true) (hs : OffersTaken s)
    (hf : s.store.freeEntries ≠ 0) :
    let t := (openIn o i s).setOffers []
    t.openPin = .high ∧ t.openRises = s.openRises ∧ Opened o i s t := by
  have hrun : (openIn o i s).running = true := by rw [openIn_eq]; exact hr
  have hrises : (openIn o i s).openRises = s.openRises := by rw [openIn_eq]; rfl
  have hopened := opened_openIn o i hf s.openRises
  rw [hs] at hopened
  have hcurrent := openIn_current o i s
  generalize openIn o i s = u at hrun hrises hopened hcurrent
  have hkept : u.setOffers [] = (u.setOffers []).setOpenRises s.openRises := by rw [← hrises]; rfl
  have hpin : u.openPin = .high := by simp [State.openPin, hrun, hcurrent]
  rw [hkept]
  exact ⟨hpin, rfl, hopened⟩

/-- Settles O43: the close, the records, and the FOLLOWER on them where there is room. -/
theorem higherTriggerCutsTheOpenEpisode : Obligations.HigherTriggerCutsTheOpenEpisode := by
  intro m s o e n hrec hm hmode hl hg hu ho he hclaim hn hlt c
  have hcase : triggerCase m.number (heard m.sender s) = .cut := by
    rw [triggerCase_of_number (s := heard m.sender s) (fun h => takesRequests hmode (.inr h)) (held_eq_false hl hg) ho
      he hn, if_neg (BitVec.ne_of_lt hlt), if_pos hlt, if_neg hclaim]
  have hcut : triggerActions .cut m (heard m.sender s) = c :=
    closeCurrent_eq_closed (s := heard m.sender s) (status := .cutByNext) ho he (by decide)
  have hslot : ∀ j, c.store.slot j = .free ↔ s.store.slot j = .free :=
    closed_slot_free_iff (s := heard m.sender s) he .cutByNext
  have ⟨⟨⟨hrun, hs⟩, _⟩, _⟩ := hrec
  refine ⟨fun i hfree hlow hf => ?_, fun hstays hroom => ?_⟩
  · have hfree := (hslot i).2 hfree
    have hlow : ∀ j, j < i → c.store.slot j ≠ .free := fun j hj h => hlow j hj ((hslot j).1 h)
    have hhandle := handleTrigger_follows (m := m) rfl hcut rfl (Store.hasRoom_of_free hfree hlow hf)
    have hopen := openFollower_of_room (s := numbered m none c) hfree hlow hf m
    refine ⟨_, ?_, opened_openHigh (follower m s.ctrl.register) i
      (s := (numbered m none c).setCtrl { (numbered m none c).ctrl with register := none }) hrun hs hf⟩
    rw [exec_triggerReceived hrec hm hu, controllerTrigger, hcase, hhandle, followTrigger, if_pos rfl, hopen,
      (examineAfter_follower rfl).1]
    rfl
  · have hfull : c.store.hasRoom = false :=
      Store.hasRoom_eq_false (hroom.imp_left fun h j hj => h j ((hslot j).1 hj))
    have hhandle := handleTrigger_records (m := m) hcut rfl (by rw [hfull]; rfl)
    have hkept : RegisterStays (numbered m (some .notCaptured) c) := hstays
    refine exec_triggerReceived_of_quiet hrec hm hu ?_ rfl
    rw [controllerTrigger, hcase, hhandle, hfull]
    exact examineAfter_of_stays (examineRegister_of_registerStays hkept) _

end Sys2Proof.Machine
end

section
/-! PROOFS. A TRIGGER or a BEACON that meets the open episode and lets it run on (R92, R104 to R106, R109, R110): what
it makes of the episode, and the record appended to it. -/

namespace Sys2Proof.Machine

open Sys2Proof.Machine.Claims

/-! ### A record in an episode that runs on (R24, R138) -/

/-- From `s` to `t` one record is written; the open episode takes it and runs on. -/
structure RecordTaken (b : RecordBody) (o : OpenEpisode) (e : Episode) (s t : State) : Prop where
  slot : t.store.slot o.slot = .filling (withRecord (stamp b s) e)
  others : ∀ j, j ≠ o.slot → t.store.slot j = s.store.slot j
  current : t.ctrl.current = some o
  highest : t.ctrl.highest = s.ctrl.highest
  ring : t.ring = s.ring.put (stamp b s)
  peers : t.peers = s.peers
  offers : t.offers = s.offers
  trigger : t.link.list.trigger = s.link.list.trigger

/-- An evaluation of own BUSY lists no TRIGGER and withdraws none (R121). -/
theorem updateBusy_trigger (s : State) : (updateBusy s).link.list.trigger = s.link.list.trigger := by
  rw [updateBusy_eq]
  dsimp only
  split_ifs <;> rfl

/-- With room in the pool and the post count below Q, the open episode takes the record and runs on (R138). -/
theorem recordTaken_writeOne {s : State} {o : OpenEpisode} {e : Episode} (ho : s.ctrl.current = some o)
    (he : s.store.slot o.slot = .filling e) (hf : s.store.freeEntries ≠ 0)
    (hq : e.header.postCount + 1 < s.config.items.postCount) (b : RecordBody) :
    RecordTaken b o e s (writeOne s b) := by
  have hwrite : writeOne s b = updateBusy ((s.setRing (s.ring.put (stamp b s))).setStore
      { s.store.setSlot o.slot (.filling (withRecord (stamp b s) e)) with
        freeEntries := s.store.freeEntries - 1 }) := by
    rw [writeOne, handOver]
    simp only [State.setRing_ctrl, State.setRing_store, ho, he]
    exact (if_neg hf).trans (if_neg (Nat.not_le.2 hq))
  rw [hwrite]
  refine ⟨?_, fun j hj => ?_, ?_, ?_, ?_, (captureFrame_updateBusy _).peers, ?_, ?_⟩
  · rw [updateBusy_store]; exact Store.slot_setSlot_self s.store _ _
  · rw [updateBusy_store]; exact Store.slot_setSlot_ne s.store _ hj.symm
  · rw [updateBusy_current]; exact ho
  · rw [updateBusy_highest]; rfl
  · rw [updateBusy_ring]; rfl
  · rw [updateBusy_offers]; rfl
  · rw [updateBusy_trigger]; rfl

/-! ### The open episode, the controller's view of it and the link, set together -/

/-- The state with this open episode, as the controller and its slot hold it, and this link. -/
def withEpisode (o : OpenEpisode) (e : Episode) (l : Link) (s : State) : State :=
  { s with
    store := s.store.setSlot o.slot (.filling e)
    ctrl := { s.ctrl with current := some o }
    link := l }

theorem Store.setSlot_slot (st : Store) (i : Fin 8) : st.setSlot i (st.slot i) = st := by
  simp [Store.setSlot, Store.slot]

theorem Store.setSlot_setSlot (st : Store) (i : Fin 8) (x y : Slot) :
    (st.setSlot i x).setSlot i y = st.setSlot i y := by
  simp [Store.setSlot]

theorem withEpisode_self {s : State} {o : OpenEpisode} {e : Episode} (ho : s.ctrl.current = some o)
    (he : s.store.slot o.slot = .filling e) : withEpisode o e s.link s = s := by
  rw [withEpisode, ← he, Store.setSlot_slot, ← ho]

theorem withEpisode_slot (o : OpenEpisode) (e : Episode) (l : Link) (s : State) :
    (withEpisode o e l s).store.slot o.slot = .filling e := Store.slot_setSlot_self s.store _ _

theorem withEpisode_mapHeader (o : OpenEpisode) (e : Episode) (l : Link) (s : State) (f : Header → Header) :
    (withEpisode o e l s).mapHeader f = withEpisode o { e with header := f e.header } l s := by
  rw [mapHeader_of_filling rfl (withEpisode_slot o e l s)]
  exact congrArg (fun st => { withEpisode o e l s with store := st }) (Store.setSlot_setSlot s.store _ _ _)

theorem withEpisode_withdraw (o : OpenEpisode) (e : Episode) (l : Link) (s : State) :
    (withEpisode o e l s).withdrawTrigger = withEpisode o e l.withdraw s := rfl

/-- What a TRIGGER makes of an unannounced claim of its number (R105). -/
theorem joinEpisode_of_unannounced {s : State} {o : OpenEpisode} {e : Episode} (ho : s.ctrl.current = some o)
    (he : s.store.slot o.slot = .filling e) (hc : o.claim = .unannounced) (m : TriggerMessage) :
    joinEpisode m s = withEpisode { o with claim := .learned }
      { e with header := (e.header.addCause (remoteEntry m)).coTrigger m } s.link.withdraw s := by
  have hs := withEpisode_self ho he
  have hjoin : joinEpisode m s = (((s.mapHeader (fun h => h.addCause (remoteEntry m))).withdrawTrigger).mapHeader
      (fun h => h.coTrigger m)).mapCurrent (fun o => { o with claim := .learned }) := by
    simp only [joinEpisode, ho, hc]
  rw [hjoin, ← hs, withEpisode_mapHeader, withEpisode_withdraw, withEpisode_mapHeader, hs]
  rfl

/-- What a TRIGGER makes of an announced claim of its number (R105). -/
theorem joinEpisode_of_announced {s : State} {o : OpenEpisode} {e : Episode} (ho : s.ctrl.current = some o)
    (he : s.store.slot o.slot = .filling e) (hc : o.claim = .announced) (m : TriggerMessage) :
    joinEpisode m s = withEpisode o
      { e with header := { e.header.addCause (remoteEntry m) with
        role := if e.header.role = .originator then .coTriggered else e.header.role } } s.link s := by
  have hs := withEpisode_self ho he
  have hjoin : joinEpisode m s = (s.mapHeader (fun h => h.addCause (remoteEntry m))).mapHeader
      (fun h => if h.role = .originator then { h with role := .coTriggered } else h) := by
    simp only [joinEpisode, ho, hc]
  have hrole : (e.header.addCause (remoteEntry m)).role = e.header.role := by
    unfold Header.addCause
    split <;> rfl
  have hjoined : (fun h : Header => if h.role = .originator then { h with role := .coTriggered } else h)
      (e.header.addCause (remoteEntry m)) = { e.header.addCause (remoteEntry m) with
        role := if e.header.role = .originator then .coTriggered else e.header.role } := by
    rw [← hrole]
    dsimp only
    split <;> rfl
  rw [hjoin, ← hs, withEpisode_mapHeader, withEpisode_mapHeader, hs]
  dsimp only at hjoined ⊢
  rw [hjoined]

/-- What a TRIGGER makes of a learned episode of its number (R105). -/
theorem joinEpisode_of_learned {s : State} {o : OpenEpisode} {e : Episode} (ho : s.ctrl.current = some o)
    (he : s.store.slot o.slot = .filling e) (hc : o.claim = .learned) (m : TriggerMessage) :
    joinEpisode m s = withEpisode o { e with header := e.header.addCause (remoteEntry m) } s.link s := by
  have hs := withEpisode_self ho he
  have hjoin : joinEpisode m s = s.mapHeader (fun h => h.addCause (remoteEntry m)) := by
    simp only [joinEpisode, ho, hc]
  rw [hjoin, ← hs, withEpisode_mapHeader, hs]

/-- What a TRIGGER above an unannounced claim makes of it (R106). -/
theorem renumberByTrigger_eq_withEpisode {s : State} {o : OpenEpisode} {e : Episode} (ho : s.ctrl.current = some o)
    (he : s.store.slot o.slot = .filling e) (m : TriggerMessage) :
    renumberByTrigger m s = withEpisode { o with floor := none, claim := .learned }
      { e with header := (({ e.header with number := some m.number }).coTrigger m).addCause (remoteEntry m) }
      s.link.withdraw s := by
  rw [renumberByTrigger_of_filling ho he]
  rfl

/-! ### A TRIGGER that lets the open episode run on (R104 to R106, R109) -/

/-- The REMOTE-TRIGGER record of a TRIGGER received now. -/
def remoteRecord (m : TriggerMessage) (f : Option RemoteFlag) (s : State) : Record :=
  { seq := s.ring.nextSeq, time := s.time.group, body := .remoteTrigger m.sender m.number f }

/-- The TRIGGER is taken: the open episode has this header and its record, and the controller holds it so. -/
def TriggerMeets (m : TriggerMessage) (s : State) (o : OpenEpisode) (e : Episode) (t : State) (f : Option RemoteFlag)
    (h : Header) (o' : OpenEpisode) : Prop :=
  exec (.triggerReceived m) s = .next t ∧
    t.store.slot o.slot = .filling (withRecord (remoteRecord m f s) { e with header := h }) ∧
    (∀ j, j ≠ o.slot → t.store.slot j = s.store.slot j) ∧
    t.ctrl.current = some o' ∧ t.ring = s.ring.put (remoteRecord m f s) ∧ t.peers = (heard m.sender s).peers ∧
    t.ctrl.highest = (if s.ctrl.highest < m.number then m.number else s.ctrl.highest)

theorem Header.addCause_postCount (h : Header) (c : CauseEntry) : (h.addCause c).postCount = h.postCount := by
  unfold Header.addCause
  split <;> rfl

/-- Where the actions of its case leave the episode open and no number is skipped, a TRIGGER ends with its record
appended (steps 2 to 5 of R103). -/
theorem triggerMeets_of_actions {m : TriggerMessage} {s : State} {o o' : OpenEpisode} {e : Episode} {h : Header}
    {l : Link} {c : TriggerCase} {f : Option RemoteFlag} (hrec : Receives s m.sender) (hm : m.number ≠ 0#32)
    (hu : s.units = disarmedUnits) (hf : s.store.freeEntries ≠ 0)
    (hq : e.header.postCount + 1 < s.config.items.postCount) (hskip : m.number.toNat ≤ s.ctrl.highest.toNat + 1)
    (hcase : triggerCase m.number (heard m.sender s) = c) (hc : c.follows = false)
    (hflag : ∀ room, remoteFlag c room = f)
    (ha : triggerActions c m (heard m.sender s) = withEpisode o' { e with header := h } l (heard m.sender s))
    (hslot : o'.slot = o.slot) (hpost : h.postCount = e.header.postCount) :
    ∃ t, t.link.list.trigger = l.list.trigger ∧ TriggerMeets m s o e t f h o' := by
  have hnone : skipped (withEpisode o' { e with header := h } l (heard m.sender s)).ctrl.highest m.number = 0 := by
    show m.number.toNat - s.ctrl.highest.toNat - 1 = 0
    omega
  have hhandle : handleTrigger c m (heard m.sender s) =
      writeOne (raiseHighest m.number (withEpisode o' { e with header := h } l (heard m.sender s)))
        (.remoteTrigger m.sender m.number f) := by
    rw [handleTrigger_of_not_follows hc, ha, hflag, hnone]
    rfl
  have htaken := recordTaken_writeOne (s := raiseHighest m.number
      (withEpisode o' { e with header := h } l (heard m.sender s))) (o := o') (e := { e with header := h })
    (by rw [raiseHighest_eq]; rfl) (by rw [raiseHighest_eq]; exact withEpisode_slot o' _ l _)
    (by rw [raiseHighest_eq]; exact hf) (by rw [raiseHighest_eq]; exact hpost.symm ▸ hq)
    (.remoteTrigger m.sender m.number f)
  rw [← hhandle, raiseHighest_eq] at htaken
  have hexec : exec (.triggerReceived m) s = .next (handleTrigger c m (heard m.sender s)) := by
    refine exec_triggerReceived_of_quiet hrec hm hu ?_ htaken.offers
    rw [controllerTrigger, hcase]
    exact examineAfter_of_open htaken.current _
  refine ⟨_, htaken.trigger, hexec, ?_, fun j hj => ?_, htaken.current, htaken.ring, htaken.peers, htaken.highest⟩
  · exact hslot ▸ htaken.slot
  · rw [htaken.others j (hslot ▸ hj)]
    exact Store.slot_setSlot_ne s.store _ (hslot ▸ hj.symm)

/-- Settles O42: each case of R104 by what its actions make of the open episode. -/
theorem triggerMeetsTheOpenEpisode : Obligations.TriggerMeetsTheOpenEpisode := by
  intro m s o e hrec hm hu ho he hf hq hskip record remote meets
  have ho : (heard m.sender s).ctrl.current = some o := ho
  have he : (heard m.sender s).store.slot o.slot = .filling e := he
  have hself := withEpisode_self ho he
  refine ⟨fun hmode hl hg => ?_, fun hpast => ?_⟩
  · have hroll : (heard m.sender s).station.mode ≠ .rollCall := fun h => takesRequests hmode (.inr h)
    have hheld : (heard m.sender s).held = false := held_eq_false (s := heard m.sender s) hl hg
    have hjoin : e.header.number = some m.number → triggerCase m.number (heard m.sender s) = .join := fun hn =>
      (triggerCase_of_number hroll hheld ho he hn m.number).trans (if_pos rfl)
    refine ⟨fun hn hc => ?_, fun hn hc => ?_, fun hn hc => ?_, fun hnumber hc => ?_, fun hnumber => ?_⟩
    · exact triggerMeets_of_actions hrec hm hu hf hq hskip (hjoin hn) rfl (fun _ => rfl)
        (joinEpisode_of_unannounced ho he hc m) rfl (Header.addCause_postCount _ _)
    · have ⟨t, _, ht⟩ := triggerMeets_of_actions hrec hm hu hf hq hskip (hjoin hn) rfl (fun _ => rfl)
        (joinEpisode_of_announced ho he hc m) rfl (Header.addCause_postCount _ _)
      exact ⟨t, ht⟩
    · have ⟨t, _, ht⟩ := triggerMeets_of_actions hrec hm hu hf hq hskip (hjoin hn) rfl (fun _ => rfl)
        (joinEpisode_of_learned ho he hc m) rfl (Header.addCause_postCount _ _)
      exact ⟨t, ht⟩
    · have hcase : triggerCase m.number (heard m.sender s) = .renumber := by
        rcases hnumber with ⟨n, hn, hlt⟩ | ⟨f, hn, hfloor, hle⟩
        · rw [triggerCase_of_number hroll hheld ho he hn, if_neg (BitVec.ne_of_lt hlt), if_pos hlt, if_pos hc]
        · rw [triggerCase_of_floor hroll hheld ho he hn hfloor, if_pos ⟨hc, hle⟩]
      exact triggerMeets_of_actions hrec hm hu hf hq hskip hcase rfl (fun _ => rfl)
        (renumberByTrigger_eq_withEpisode ho he m) rfl (Header.addCause_postCount _ _)
    · have hcase : triggerCase m.number (heard m.sender s) = .stale := by
        rcases hnumber with ⟨n, hn, hlt⟩ | ⟨hn, hbelow⟩
        · rw [triggerCase_of_number hroll hheld ho he hn, if_neg (BitVec.ne_of_lt hlt).symm,
            if_neg (BitVec.lt_asymm hlt)]
        · cases hfloor : o.floor with
          | some f =>
            rw [triggerCase_of_floor hroll hheld ho he hn hfloor,
              if_neg fun h => BitVec.not_lt.2 h.2 (hbelow f hfloor)]
          | none => exact triggerCase_of_neither hroll hheld ho he hn hfloor _
      have ⟨t, _, ht⟩ := triggerMeets_of_actions hrec hm hu hf hq hskip hcase rfl (fun _ => rfl) hself.symm rfl rfl
      exact ⟨t, ht⟩
  · have hcase : triggerCase m.number (heard m.sender s) = .notCaptured := by
      rcases hpast with h | h
      · exact triggerCase_of_rollCall h _
      · exact triggerCase_of_held (held_eq_true h) _
    exact triggerMeets_of_actions (l := (heard m.sender s).link) hrec hm hu hf hq hskip hcase rfl (fun _ => rfl)
      hself.symm rfl rfl

end Sys2Proof.Machine
end

section
/-! PROOFS. A BEACON that reaches an unannounced claim (R73, R92, R110): the claim renumbered or made LOCAL, and the GAP
record appended to its episode. -/

namespace Sys2Proof.Machine

open Sys2Proof.Machine.Claims

/-! ### A BEACON of a peer already heard, without ROLLCALL and without a step of group time (R74, R77, R89) -/

/-- The sender of the BEACON has been heard, and its entry holds what the BEACON says (R74). -/
def beaconHeard (m : BeaconMessage) (s : State) : State :=
  (heard m.sender s).setPeer m.sender (((heard m.sender s).peer m.sender).beacon m)

theorem noteBeacon_of_no_rollCall {m : BeaconMessage} (h : m.rollCall = none) (before : PeerEntry) (s : State) :
    noteBeacon before m s = s.setPeer m.sender ((s.peer m.sender).beacon m) := by
  simp only [noteBeacon, h]

/-- A beacon time at most 2 µs ahead of the latch calls for no step (R89). -/
theorem not_steps_of_le {g l x : Time} (h : x.toNat ≤ l.toNat + 2) : ¬ Steps g l x :=
  fun hsteps => absurd hsteps.1 (Nat.not_lt.2 h)

theorem evaluateGroupBusy_of_open {s : State} {o : OpenEpisode} (ho : s.ctrl.current = some o) :
    evaluateGroupBusy s = s.setCtrl { s.ctrl with groupBusy := s.ctrl.ownBusy || s.peersBusy } :=
  examineAfter_of_open (t := s.setCtrl { s.ctrl with groupBusy := s.ctrl.ownBusy || s.peersBusy }) ho s

/-- What such a BEACON leads to where an episode is open after its number is taken (R92). -/
theorem handleBeacon_of_open {m : BeaconMessage} {latch : Time} {s t : State} {o : OpenEpisode}
    (hlost : (s.peer m.sender).state ≠ .lost) (htime : m.time.toNat ≤ latch.toNat + 2) (hroll : m.rollCall = none)
    (ht : writeGap (m.highest.toNat - s.ctrl.highest.toNat) (renumberByBeacon m.highest (beaconHeard m s)) = t)
    (ho : t.ctrl.current = some o) :
    handleBeacon m latch (s.setLink s.link.judged) =
      markHold m (t.setCtrl { t.ctrl with groupBusy := t.ctrl.ownBusy || t.peersBusy }) := by
  have hnumber : beaconNumber m.highest (beaconHeard m s) = t := by
    rw [← ht] at ho ⊢
    exact examineAfter_of_open ho _
  rw [handleBeacon, hearPeer_judged hlost, noteBeacon_of_no_rollCall hroll, stepTime_of_no_step (not_steps_of_le htime)]
  exact (congrArg (fun u => markHold m (evaluateGroupBusy u)) hnumber).trans
    (congrArg (markHold m) (evaluateGroupBusy_of_open ho))

/-! ### The GAP record in an episode that runs on (R94, R138) -/

/-- The open episode's records after the GAP record of `k` numbers skipped, if any. -/
def recordsWithGap (k : Nat) (e : Episode) (s : State) : List Record :=
  if k = 0 then e.records else e.records ++ [stamp (.gap (BitVec.ofNat 32 (min k gapLimit))) s]

/-- Numbers skipped append at most their GAP record, and the open episode runs on. -/
theorem writeGap_of_open {s : State} {o : OpenEpisode} {e : Episode} (ho : s.ctrl.current = some o)
    (he : s.store.slot o.slot = .filling e) (hf : s.store.freeEntries ≠ 0)
    (hq : e.header.postCount + 1 < s.config.items.postCount) (k : Nat) :
    ∃ n, (writeGap k s).store.slot o.slot =
        .filling { header := { e.header with postCount := n }, records := recordsWithGap k e s } ∧
      (writeGap k s).ctrl.current = some o ∧ (writeGap k s).ctrl.highest = s.ctrl.highest ∧
      (writeGap k s).offers = s.offers ∧ (writeGap k s).link.list.trigger = s.link.list.trigger := by
  by_cases hk : k = 0
  · subst hk
    exact ⟨e.header.postCount, he, ho, rfl, rfl, rfl⟩
  · have htaken := recordTaken_writeOne (s := s.setCtrl { s.ctrl with gapMark := true }) ho he hf hq
      (.gap (BitVec.ofNat 32 (min k gapLimit)))
    have hwrite : writeGap k s = writeOne (s.setCtrl { s.ctrl with gapMark := true })
        (.gap (BitVec.ofNat 32 (min k gapLimit))) := if_neg hk
    rw [hwrite, recordsWithGap, if_neg hk]
    exact ⟨e.header.postCount + 1, htaken.slot, htaken.current, htaken.highest, htaken.offers, htaken.trigger⟩

/-! ### The claim reached (R110) -/

section

variable {m : BeaconMessage} {latch : Time} {s : State} {o' : OpenEpisode} {e : Episode} {h : Header} {l : Link}
  {y : Word32}

/-- A BEACON that changes the open episode's claim, header and number leaves it so, its GAP record appended. -/
theorem beaconMeets_of_renumbered (hrec : Receives s m.sender) (hl : s.link.latch = some latch)
    (hi : m.interval ≠ 0#8) (htime : m.time.toNat ≤ latch.toNat + 2) (hroll : m.rollCall = none)
    (hf : s.store.freeEntries ≠ 0) (hq : e.header.postCount + 1 < s.config.items.postCount)
    (hr : renumberByBeacon m.highest (beaconHeard m s) = withEpisode o' { e with header := h } l
      ((beaconHeard m s).setCtrl { s.ctrl with highest := y }))
    (hpost : h.postCount = e.header.postCount) :
    ∃ t n, exec (.beaconReceived m) s = .next t ∧ t.ctrl.current = some o' ∧
      t.store.slot o'.slot = .filling { header := { h with postCount := n }
                                        records := recordsWithGap (m.highest.toNat - s.ctrl.highest.toNat) e s } ∧
      t.ctrl.highest = y ∧ t.link.list.trigger = l.list.trigger := by
  obtain ⟨hears, hlost⟩ := hrec
  have ⟨⟨_, hs⟩, _⟩ := hears
  obtain ⟨n, hslot, hcurrent, hhighest, hoffers, htrigger⟩ := writeGap_of_open
    (s := withEpisode o' { e with header := h } l ((beaconHeard m s).setCtrl { s.ctrl with highest := y })) rfl
    (withEpisode_slot o' { e with header := h } l _) hf (hpost.symm ▸ hq)
    (m.highest.toNat - s.ctrl.highest.toNat)
  rw [← hr] at hslot hcurrent hhighest hoffers htrigger
  have hhandle := handleBeacon_of_open hlost htime hroll rfl hcurrent
  have hexec := exec_beaconReceived hears hl hi
  rw [hhandle, markHold_eq, settle_of_no_offers] at hexec
  · refine ⟨_, n, hexec, hcurrent, hslot.trans ?_, hhighest.trans ?_, htrigger.trans ?_⟩ <;> rw [hr] <;> rfl
  · exact hoffers.trans ((congrArg State.offers hr).trans hs)

end

/-- A number is skipped where the BEACON's lies above the highest (R92). -/
theorem recordsWithGap_of_highest (m : BeaconMessage) (e : Episode) (s : State) :
    recordsWithGap (m.highest.toNat - s.ctrl.highest.toNat) e s =
      if s.ctrl.highest < m.highest
      then e.records ++ [stamp (.gap (BitVec.ofNat 32 (min (m.highest.toNat - s.ctrl.highest.toNat) gapLimit))) s]
      else e.records := by
  unfold recordsWithGap
  by_cases hlt : s.ctrl.highest < m.highest
  · rw [if_pos hlt, if_neg (Nat.sub_ne_zero_of_lt (BitVec.lt_def.1 hlt))]
  · rw [if_neg hlt, if_pos (Nat.sub_eq_zero_of_le (BitVec.not_lt.1 hlt))]

/-- A highest number raised to one at or above it is that one (R92). -/
theorem raised_eq_of_le {a b : Word32} (h : a ≤ b) : (if a < b then b else a) = b := by
  split
  · rfl
  · exact BitVec.le_antisymm h (BitVec.not_lt.1 ‹_›)

/-- Settles O45: what R110 makes of the claim reached, below the greatest number and at it. -/
theorem beaconRenumbersTheClaim : Obligations.BeaconRenumbersTheClaim := by
  intro m latch s o e n hrec hl hi htime hroll ho he hc hn hle hf hq records
  have ho : (beaconHeard m s).ctrl.current = some o := ho
  have he : (beaconHeard m s).store.slot o.slot = .filling e := he
  refine ⟨fun hlimit hreach => ?_, fun hlimit => ?_⟩
  · have hr : renumberByBeacon m.highest (beaconHeard m s) =
        withEpisode o { e with header := { e.header with number := some (m.highest + 1#32) } } s.link.judged
          ((beaconHeard m s).setCtrl { s.ctrl with highest := m.highest + 1#32 }) := by
      rw [renumberByBeacon_of_reached ho he hc hn hle hlimit,
        raised_eq_of_le (a := (beaconHeard m s).ctrl.highest) hreach, withEpisode, ← ho]
      rfl
    obtain ⟨t, k, hexec, hcurrent, hslot, hhighest, htrigger⟩ :=
      beaconMeets_of_renumbered hrec hl hi htime hroll hf hq hr rfl
    exact ⟨t, _, hexec, hcurrent, hslot, rfl, rfl, rfl, rfl, recordsWithGap_of_highest m e s, hhighest, htrigger⟩
  · have hr : renumberByBeacon m.highest (beaconHeard m s) =
        withEpisode { o with floor := some n }
          { e with header := { e.header with number := none, role := .localRole, originator := none } }
          s.link.judged.withdraw ((beaconHeard m s).setCtrl { s.ctrl with highest := Word32.limit }) := by
      rw [show m.highest = Word32.limit from hlimit, renumberByBeacon_of_limit ho he hc hn,
        raised_eq_of_le (Word32.le_limit _)]
      rfl
    obtain ⟨t, k, hexec, hcurrent, hslot, hhighest, htrigger⟩ :=
      beaconMeets_of_renumbered hrec hl hi htime hroll hf hq hr rfl
    exact ⟨t, _, hexec, hcurrent, hslot, rfl, rfl, rfl, rfl, recordsWithGap_of_highest m e s, hhighest, htrigger⟩

end Sys2Proof.Machine
end

section
/-! PROOFS. Register, own BUSY and group busy agree with their grounds (R119, R121, section 7.3): what holds, counts and
peers are to them, and what closes, records, openings, requests, messages and changes of hold keep of the agreements. -/

namespace Sys2Proof.Machine

/-! ### The grounds of BUSY and of the holds -/

/-- What the holds, the register, own BUSY, group busy and the peers stand at: all that the three agreements rest on but
the counts of the store. -/
structure Grounds where
  held : Bool
  register : Option HeldTrigger
  ownBusy : Bool
  groupBusy : Bool
  table : Vector PeerEntry 32

def State.grounds (s : State) : Grounds :=
  { held := s.held, register := s.ctrl.register, ownBusy := s.ctrl.ownBusy, groupBusy := s.ctrl.groupBusy
    table := s.peers.table }

/-- BUSY is kept of the peers that are PRESENT alone (R72, R75). -/
def FlagsOfPresent (s : State) : Prop :=
  ∀ a, (s.peer a).state ≠ .present → (s.peer a).busy = false

theorem FlagsOfPresent.of_table {s t : State} (h : t.peers.table = s.peers.table) (hs : FlagsOfPresent s) :
    FlagsOfPresent t := by
  simpa only [FlagsOfPresent, State.peer, h] using hs

theorem holdSound_of_register {s : State} (h : s.ctrl.register = none) : HoldSound s := fun _ => h

theorem holdSound_of_not_held {s : State} (h : s.held = false) : HoldSound s :=
  fun hs => absurd (h.symm.trans hs) Bool.false_ne_true

theorem HoldSound.of_grounds {s t : State} (h : t.grounds = s.grounds) (hs : HoldSound s) : HoldSound t := by
  have hheld : t.held = s.held := congrArg Grounds.held h
  have hregister : t.ctrl.register = s.ctrl.register := congrArg Grounds.register h
  simpa only [HoldSound, hheld, hregister] using hs

theorem GroupBusySound.of_grounds {s t : State} (h : t.grounds = s.grounds) (hs : GroupBusySound s) :
    GroupBusySound t := by
  have hown : t.ctrl.ownBusy = s.ctrl.ownBusy := congrArg Grounds.ownBusy h
  have hgroup : t.ctrl.groupBusy = s.ctrl.groupBusy := congrArg Grounds.groupBusy h
  have htable : t.peers.table = s.peers.table := congrArg Grounds.table h
  simpa only [GroupBusySound, State.peer, State.peersBusy, hown, hgroup, htable] using hs

/-! ### What keeps the agreements -/

/-- An event from `s` to `t` keeps each of the three agreements. -/
structure KeepsBusy (s t : State) : Prop where
  hold : HoldSound s → HoldSound t
  busy : BusySound s → BusySound t
  group : GroupBusySound s → GroupBusySound t

namespace KeepsBusy

theorem trans {s t u : State} (h : KeepsBusy s t) (k : KeepsBusy t u) : KeepsBusy s u :=
  ⟨k.hold ∘ h.hold, k.busy ∘ h.busy, k.group ∘ h.group⟩

/-- An event that touches neither grounds nor counts. -/
theorem aside {s t : State} (h : t.grounds = s.grounds) (hc : t.busyByCounts = s.busyByCounts) : KeepsBusy s t where
  hold := .of_grounds h
  busy hs := by
    have hown : t.ctrl.ownBusy = s.ctrl.ownBusy := congrArg Grounds.ownBusy h
    exact hown.trans (hs.trans hc.symm)
  group := .of_grounds h

theorem refl (s : State) : KeepsBusy s s := aside rfl rfl

/-- An event that first touches neither grounds nor counts. -/
theorem after {s u t : State} (k : KeepsBusy u t) (h : u.grounds = s.grounds) (hc : u.busyByCounts = s.busyByCounts) :
    KeepsBusy s t := (aside h hc).trans k

/-- An event that at last touches neither grounds nor counts. -/
theorem before {s u t : State} (k : KeepsBusy s u) (h : t.grounds = u.grounds) (hc : t.busyByCounts = u.busyByCounts) :
    KeepsBusy s t := k.trans (aside h hc)

end KeepsBusy

/-! ### Updates of the other blocks -/

theorem keepsBusy_setLink (s : State) (l : Link) : KeepsBusy s (s.setLink l) := .aside rfl rfl

theorem keepsBusy_raise (s : State) (f : Attention) : KeepsBusy s (s.raise f) := .aside rfl rfl

theorem keepsBusy_mapCurrent (s : State) (f : OpenEpisode → OpenEpisode) : KeepsBusy s (s.mapCurrent f) :=
  .aside rfl rfl

theorem keepsBusy_bring (s : State) (o : Offer) : KeepsBusy s (s.bring o) := .aside rfl rfl

theorem keepsBusy_setHighest (s : State) (x : Word32) : KeepsBusy s (s.setCtrl { s.ctrl with highest := x }) :=
  .aside rfl rfl

theorem keepsBusy_requestBeacon (s : State) : KeepsBusy s s.requestBeacon := by
  rw [requestBeacon_eq rfl rfl]
  exact keepsBusy_setLink s _

/-! ### The evaluation of own BUSY (R119 to R121) -/

theorem busyByCounts_updateBusy (s : State) : (updateBusy s).busyByCounts = s.busyByCounts := by
  simp only [State.busyByCounts, updateBusy_store, (captureFrame_updateBusy s).config]

theorem busySound_updateBusy (s : State) : BusySound (updateBusy s) :=
  (updateBusy_ownBusy s).trans (busyByCounts_updateBusy s).symm

/-- An evaluation after a change of the counts alone restores what the change has broken. -/
theorem keepsBusy_updateBusy {s u : State} (h : u.grounds = s.grounds) : KeepsBusy s (updateBusy u) where
  hold hs := by
    have hu : HoldSound u := hs.of_grounds h
    rw [updateBusy_eq]
    exact hu
  busy _ := busySound_updateBusy u
  group hs := by
    obtain ⟨hflags, hgroup⟩ := hs.of_grounds h
    rw [updateBusy_eq]
    refine ⟨hflags, ?_⟩
    show (if u.busyByCounts = u.ctrl.ownBusy then u.ctrl.groupBusy else u.busyByCounts || u.peersBusy) =
      (u.busyByCounts || u.peersBusy)
    split
    · rename_i hsame
      rw [hgroup, hsame]
    · rfl

/-! ### The counts of the store -/

/-- A slot that stays FREE, or stays not FREE, leaves the number of FREE slots (R135). -/
theorem Store.freeSlots_setSlot {st : Store} {i : Fin 8} {x : Slot} (h : x.isFree = (st.slot i).isFree) :
    (st.setSlot i x).freeSlots = st.freeSlots := by
  have hcount : ∀ v : Vector Slot 8, v.toList.countP Slot.isFree = (v.map Slot.isFree).toList.countP id := fun v => by
    rw [Vector.toList_map, List.countP_map]
    rfl
  have hmap : (st.slots.set i x).map Slot.isFree = st.slots.map Slot.isFree := by
    rw [Vector.map_set, h]
    exact Vector.ext fun j hj => by
      rw [Vector.getElem_set]
      split
      · rename_i hij
        subst hij
        simp [Store.slot]
      · rfl
  show (st.slots.set i x).toList.countP _ = st.slots.toList.countP _
  rw [hcount, hmap, ← hcount]

theorem Store.freeSlots_complete (st : Store) (i : Fin 8) (e : EndStatus) :
    (st.complete i e).freeSlots = st.freeSlots := by
  unfold Store.complete
  split
  · rfl
  · rfl
  · rename_i ep hep
    exact Store.freeSlots_setSlot (by rw [hep]; rfl)

theorem freeSlots_mapHeader (s : State) (f : Header → Header) :
    (s.mapHeader f).store.freeSlots = s.store.freeSlots := by
  unfold State.mapHeader State.mapEpisode
  split
  · rfl
  · split
    · rename_i e he
      exact Store.freeSlots_setSlot (by rw [he]; rfl)
    · rfl
    · rfl

/-! ### The close, records and openings (R24, R101, R114, R138) -/

theorem grounds_closeCurrent (e : EndStatus) (s : State) : (closeCurrent e s).grounds = s.grounds := by
  simp only [State.grounds, State.held, closeCurrent_ctrl, (captureFrame_closeCurrent e s).peers]

theorem busyByCounts_closeCurrent (e : EndStatus) (s : State) : (closeCurrent e s).busyByCounts = s.busyByCounts := by
  simp only [State.busyByCounts, closeCurrent_store, (captureFrame_closeCurrent e s).config]
  split
  · rfl
  · rw [Store.freeSlots_complete, Store.complete_freeEntries]

theorem keepsBusy_closeCurrent (e : EndStatus) (s : State) : KeepsBusy s (closeCurrent e s) :=
  .aside (grounds_closeCurrent e s) (busyByCounts_closeCurrent e s)

theorem keepsBusy_writeOne (s : State) (b : RecordBody) : KeepsBusy s (writeOne s b) := by
  rcases handOver_cases (stamp b s) (s.setRing (s.ring.put (stamp b s))) with
    h | ⟨o, e, _, _, ⟨_, h⟩ | ⟨_, s1, h1, ⟨_, h⟩ | ⟨_, h⟩⟩⟩ <;> rw [writeOne, h]
  · exact .aside rfl rfl
  · exact (keepsBusy_closeCurrent _ _).after rfl rfl
  · exact keepsBusy_updateBusy (by rw [grounds_closeCurrent, h1]; rfl)
  · exact keepsBusy_updateBusy (by rw [h1]; rfl)

theorem keepsBusy_writeAll (bs : List RecordBody) (s : State) : KeepsBusy s (writeAll bs s) := by
  induction bs generalizing s with
  | nil => exact .refl s
  | cons b bs ih => exact (keepsBusy_writeOne s b).trans (ih _)

theorem keepsBusy_suppressAll (f : SuppressedFlag) (cs : List OwnCause) (s : State) :
    KeepsBusy s (suppressAll f cs s) := by
  cases cs with
  | nil => exact .refl s
  | cons c cs => exact (keepsBusy_writeAll _ s).before rfl rfl

theorem keepsBusy_openIn (o : Opening) (i : Fin 8) (s : State) : KeepsBusy s (openIn o i s) := by
  rw [openIn_eq_updateBusy, clearCounters_eq]
  exact keepsBusy_updateBusy rfl

theorem keepsBusy_riseOpen (s : State) : KeepsBusy s s.riseOpen := by
  rw [riseOpen_eq]
  exact .aside rfl rfl

theorem keepsBusy_originate (c : OwnCause × Time) (cs : List (OwnCause × Time)) (ov : Bool) (s : State) :
    KeepsBusy s (originate c cs ov s).1 := by
  rcases originate_cases c cs ov s with ⟨f, h⟩ | ⟨i, s2, _, _, _, h2, h⟩
  · rw [h]; exact keepsBusy_suppressAll f ((c :: cs).map Prod.fst) s
  · rw [h, h2]
    exact (keepsBusy_setHighest s _).trans
      ((keepsBusy_openIn _ i _).trans ((keepsBusy_riseOpen _).trans (keepsBusy_setLink _ _)))

/-! ### The register and its examination (R124 to R126) -/

/-- An EMPTY register agrees with every hold. -/
theorem keepsBusy_empty (s : State) : KeepsBusy s (s.setCtrl { s.ctrl with register := none }) :=
  ⟨fun _ => holdSound_of_register rfl, id, id⟩

theorem keepsBusy_examineRegister (s : State) : KeepsBusy s (examineRegister s) := by
  rcases examineRegister_cases s with h | ⟨r, _, _, _, _, ⟨_, h⟩ | ⟨c, cs, _, h⟩⟩ <;> rw [h]
  · exact .refl s
  · exact keepsBusy_empty s
  · exact (keepsBusy_empty s).trans (keepsBusy_originate _ _ _ _)

theorem KeepsBusy.examineAfter {s t : State} (h : KeepsBusy s t) (before : State) :
    KeepsBusy s (examineAfter before t) := by
  rcases examineAfter_cases before t with heq | heq <;> rw [heq]
  · exact h
  · exact h.trans (keepsBusy_examineRegister t)

theorem keepsBusy_write (bs : List RecordBody) (s : State) : KeepsBusy s (write bs s) :=
  (keepsBusy_writeAll bs s).examineAfter s

theorem keepsBusy_suppress (f : SuppressedFlag) (cs : List OwnCause) (s : State) : KeepsBusy s (suppress f cs s) :=
  (keepsBusy_suppressAll f cs s).examineAfter s

theorem keepsBusy_closeEpisode (e : EndStatus) (s : State) : KeepsBusy s (closeEpisode e s) :=
  (keepsBusy_closeCurrent e s).examineAfter s

/-- An evaluation of own BUSY, with all that it brings, after a change of the counts alone (R119 to R121). -/
theorem keepsBusy_evaluateBusy {s u : State} (h : u.grounds = s.grounds) : KeepsBusy s (evaluateBusy u) :=
  (keepsBusy_updateBusy h).examineAfter u

/-- An evaluation of group busy restores its agreement, whatever the peers have said (R121). -/
theorem groupBusySound_evaluateGroupBusy {s : State} (h : FlagsOfPresent s) : GroupBusySound (evaluateGroupBusy s) := by
  have hset : GroupBusySound (s.setCtrl { s.ctrl with groupBusy := s.ctrl.ownBusy || s.peersBusy }) := ⟨h, rfl⟩
  exact ((KeepsBusy.refl _).examineAfter s).group hset

/-- An evaluation of group busy changes neither register nor counts but by an examination (R121). -/
theorem keepsBusy_evaluateGroupBusy (s : State) : KeepsBusy s (evaluateGroupBusy s) := by
  refine ⟨fun hs => ?_, fun hs => ?_, fun hs => groupBusySound_evaluateGroupBusy hs.1⟩
  · have hset : HoldSound (s.setCtrl { s.ctrl with groupBusy := s.ctrl.ownBusy || s.peersBusy }) := hs
    exact ((KeepsBusy.refl _).examineAfter s).hold hset
  · have hset : BusySound (s.setCtrl { s.ctrl with groupBusy := s.ctrl.ownBusy || s.peersBusy }) := hs
    exact ((KeepsBusy.refl _).examineAfter s).busy hset

theorem keepsBusy_discardRegister (s : State) : KeepsBusy s (discardRegister s) := by
  unfold discardRegister
  split
  · exact .refl s
  · exact (keepsBusy_empty s).trans (keepsBusy_suppress _ _ _)

/-- The register is EMPTY after a discard, unless the station is under no hold (R126). -/
theorem holdSound_discardRegister (s : State) : HoldSound (discardRegister s) := by
  unfold discardRegister
  split
  · exact holdSound_of_register ‹_›
  · exact (keepsBusy_suppress _ _ _).hold (holdSound_of_register rfl)

theorem keepsBusy_expireRegister (s : State) : KeepsBusy s (expireRegister s) := by
  unfold expireRegister
  split
  · exact .refl s
  · exact (keepsBusy_empty s).trans (keepsBusy_suppress _ _ _)

/-! ### Trigger requests (R97) -/

theorem keepsBusy_mapHeader (s : State) (f : Header → Header) : KeepsBusy s (s.mapHeader f) := by
  have hcounts : (s.mapHeader f).busyByCounts = s.busyByCounts := by
    simp only [State.busyByCounts, freeSlots_mapHeader, mapHeader_freeEntries, (captureFrame_mapHeader s f).config]
  refine .aside ?_ hcounts
  obtain ⟨st, hst⟩ := mapHeader_eq_setStore s f
  rw [hst]
  rfl

/-- A request that meets the register is under no hold (R97, R122, R123). -/
theorem keepsBusy_holdRequest (c : OwnCause) (x : Time) {s : State} (h : s.held = false) :
    KeepsBusy s (holdRequest c x s).1 := by
  have hset : ∀ r, KeepsBusy s (s.setCtrl { s.ctrl with register := r }) := fun _ =>
    ⟨fun _ => holdSound_of_not_held h, id, id⟩
  unfold holdRequest
  split
  · exact keepsBusy_suppress _ _ s
  · split
    · exact hset _
    · split
      · exact hset _
      · exact hset _

theorem keepsBusy_openLocal (c : OwnCause) (x : Time) (s : State) : KeepsBusy s (openLocal c x s).1 := by
  unfold openLocal
  split
  · exact keepsBusy_suppress _ _ s
  · split
    · exact keepsBusy_suppress _ _ s
    · exact (keepsBusy_openIn _ _ s).trans (keepsBusy_riseOpen _)

theorem keepsBusy_requestNoEpisode (c : OwnCause) (x : Time) {s : State} (h : s.held = false) :
    KeepsBusy s (requestNoEpisode c x s).1 := by
  unfold requestNoEpisode
  split
  · exact keepsBusy_openLocal c x s
  · split
    · exact keepsBusy_holdRequest c x h
    · exact keepsBusy_originate _ _ _ s

theorem keepsBusy_request (c : OwnCause) (x : Time) (s : State) : KeepsBusy s (request c x s).1 := by
  unfold request
  split
  · exact .refl s
  · split
    · exact keepsBusy_suppress _ _ s
    · split
      · exact keepsBusy_mapHeader s (fun h => h.addCause (.own c x))
      · exact keepsBusy_requestNoEpisode c x (Bool.eq_false_iff.2 ‹_›)

/-! ### Received TRIGGERs, beacon numbers and claims -/

theorem keepsBusy_raiseHighest (x : Word32) (s : State) : KeepsBusy s (raiseHighest x s) := by
  rw [raiseHighest_eq]
  exact .aside rfl rfl

theorem keepsBusy_writeGap (n : Nat) (s : State) : KeepsBusy s (writeGap n s) := by
  unfold writeGap
  split
  · exact .refl s
  · exact (keepsBusy_writeOne _ _).after rfl rfl

theorem keepsBusy_joinEpisode (m : TriggerMessage) (s : State) : KeepsBusy s (joinEpisode m s) := by
  have hcause := keepsBusy_mapHeader s (fun h => h.addCause (remoteEntry m))
  unfold joinEpisode
  dsimp only
  split
  · exact hcause
  · split
    · exact hcause.trans ((keepsBusy_setLink _ _).trans ((keepsBusy_mapHeader _ _).trans (keepsBusy_mapCurrent _ _)))
    · exact hcause.trans (keepsBusy_mapHeader _ _)
    · exact hcause

theorem keepsBusy_triggerActions (c : TriggerCase) (m : TriggerMessage) (s : State) :
    KeepsBusy s (triggerActions c m s) := by
  cases c with
  | join => exact keepsBusy_joinEpisode m s
  | renumber => exact (keepsBusy_mapHeader s _).trans ((keepsBusy_setLink _ _).trans (keepsBusy_mapCurrent _ _))
  | cut => exact keepsBusy_closeCurrent .cutByNext s
  | notCaptured | stale | follow | late => exact .refl s

theorem keepsBusy_openFollower (m : TriggerMessage) (s : State) : KeepsBusy s (openFollower m s) := by
  unfold openFollower
  refine (keepsBusy_empty s).trans ?_
  rcases openLowest_cases (followerOpening m s.ctrl.register) (s.setCtrl { s.ctrl with register := none }) with
    h | ⟨i, _, _, h⟩ <;> rw [h]
  · exact .refl _
  · exact keepsBusy_openIn _ i _

theorem keepsBusy_followTrigger (c : TriggerCase) (m : TriggerMessage) (s : State) :
    KeepsBusy s (followTrigger c m s) := by
  unfold followTrigger
  split
  · exact keepsBusy_openFollower m s
  · exact (keepsBusy_openFollower m s).trans (keepsBusy_riseOpen _)

theorem keepsBusy_handleTrigger (c : TriggerCase) (m : TriggerMessage) (s : State) :
    KeepsBusy s (handleTrigger c m s) := by
  have hrecords : ∀ n b, KeepsBusy s (writeOne (writeGap n (raiseHighest m.number (triggerActions c m s))) b) :=
    fun n b => (keepsBusy_triggerActions c m s).trans ((keepsBusy_raiseHighest _ _).trans
      ((keepsBusy_writeGap n _).trans (keepsBusy_writeOne _ b)))
  unfold handleTrigger
  dsimp only
  split
  · exact (hrecords _ _).trans (keepsBusy_followTrigger c m _)
  · exact hrecords _ _

theorem keepsBusy_controllerTrigger (m : TriggerMessage) (s : State) : KeepsBusy s (controllerTrigger m s) :=
  (keepsBusy_handleTrigger _ m s).examineAfter s

theorem keepsBusy_renumberByBeacon (x : Word32) (s : State) : KeepsBusy s (renumberByBeacon x s) := by
  unfold renumberByBeacon
  split
  · split
    · split
      · split
        · exact (keepsBusy_raiseHighest _ s).trans ((keepsBusy_setLink _ _).trans
            ((keepsBusy_mapHeader _ _).trans (keepsBusy_mapCurrent _ _)))
        · exact (keepsBusy_raiseHighest _ s).trans (keepsBusy_mapHeader _ _)
      · exact keepsBusy_raiseHighest x s
    · exact keepsBusy_raiseHighest x s
  · exact keepsBusy_raiseHighest x s

theorem keepsBusy_beaconNumber (x : Word32) (s : State) : KeepsBusy s (beaconNumber x s) :=
  ((keepsBusy_renumberByBeacon x s).trans (keepsBusy_writeGap _ _)).examineAfter s

theorem keepsBusy_announceClaim (s : State) : KeepsBusy s (announceClaim s) := by
  unfold announceClaim
  split
  · exact .refl s
  · split
    · exact (keepsBusy_mapHeader s _).trans (keepsBusy_mapCurrent _ _)
    · exact .refl s

theorem keepsBusy_claimOvertakenByMute (s : State) : KeepsBusy s (claimOvertakenByMute s) := by
  unfold claimOvertakenByMute
  split
  · split
    · split
      · exact (keepsBusy_mapHeader s _).trans (keepsBusy_mapCurrent _ _)
      · exact .refl s
    · exact .refl s
  · exact .refl s

/-! ### Holds (section 7.4) -/

/-- A change of hold keeps the agreements: a hold that is set discards the register, and one that is cleared leaves the
station under no hold that it was not under (R131). -/
theorem keepsBusy_holdChanged {v l g : Bool} {s : State} (h : v = false → (l || g) = true → s.held = true) :
    KeepsBusy s (holdChanged v (s.setCtrl { s.ctrl with localHold := l, groupHold := g })) := by
  have hflag : ∀ u : State, KeepsBusy u (u.raise .hold).requestBeacon := fun u =>
    (keepsBusy_raise u _).trans (keepsBusy_requestBeacon _)
  cases v with
  | false =>
    have hcleared : KeepsBusy s (s.setCtrl { s.ctrl with localHold := l, groupHold := g }) :=
      ⟨fun hs hheld => hs (h rfl hheld), id, id⟩
    exact hcleared.trans (hflag _)
  | true =>
    have hdiscard := keepsBusy_discardRegister (s.setCtrl { s.ctrl with localHold := l, groupHold := g })
    have hset : KeepsBusy s (discardRegister (s.setCtrl { s.ctrl with localHold := l, groupHold := g })) :=
      ⟨fun _ => holdSound_discardRegister _, hdiscard.busy, hdiscard.group⟩
    exact hset.trans (hflag _)

theorem keepsBusy_setLocalHold (v : Bool) (s : State) : KeepsBusy s (setLocalHold v s) := by
  unfold setLocalHold
  split
  · exact .refl s
  · exact keepsBusy_holdChanged fun hv hheld => held_eq_true (.inr (by simpa [hv] using hheld))

theorem keepsBusy_setGroupHold (v : Bool) (s : State) : KeepsBusy s (setGroupHold v s) := by
  unfold setGroupHold
  split
  · exact .refl s
  · exact keepsBusy_holdChanged fun hv hheld => held_eq_true (.inl (by simpa [hv] using hheld))

theorem keepsBusy_handOnHoldMark (s : State) : KeepsBusy s (handOnHoldMark s) := by
  unfold handOnHoldMark
  dsimp only
  split
  · exact (keepsBusy_setGroupHold true _).after rfl rfl
  · exact .aside rfl rfl

end Sys2Proof.Machine
end

section
/-! PROOFS. Units, lines, peers and station states keep register, own BUSY and group busy in agreement with their
grounds: where an event sets a peer's entry, it evaluates group busy at last (R73 to R77, R121). -/

namespace Sys2Proof.Machine

/-! ### Units (R34, R45, R46) -/

theorem keepsBusy_fire (k : Fin 4) (s : State) : KeepsBusy s (fire k s) :=
  (keepsBusy_write _ s).trans (keepsBusy_request _ _ _)

theorem keepsBusy_settleUnit (k : Fin 4) (r : ArmedUnit × Bool) (s : State) : KeepsBusy s (settleUnit k r s) := by
  unfold settleUnit
  dsimp only
  split
  · split
    · exact (keepsBusy_fire k _).after rfl rfl
    · exact .aside rfl rfl
  · exact .aside rfl rfl

theorem keepsBusy_unitTakes (o : Offer) (s : State) (k : Fin 4) : KeepsBusy s (unitTakes o s k) := by
  unfold unitTakes
  split
  · exact .refl s
  · exact keepsBusy_settleUnit k _ s

theorem keepsBusy_takeOfferIn (order : List (Fin 4)) (o : Offer) (s : State) :
    KeepsBusy s (takeOfferIn order o s) := by
  unfold takeOfferIn
  induction order generalizing s with
  | nil => exact .refl s
  | cons k order ih => exact (keepsBusy_unitTakes o s k).trans (ih _)

theorem keepsBusy_takeOffers (n : Nat) (s : State) : KeepsBusy s (takeOffers n s) := by
  induction n generalizing s with
  | zero => exact .refl s
  | succ n ih =>
    unfold takeOffers
    split
    · exact .refl s
    · exact ((keepsBusy_takeOfferIn _ _ _).trans (ih _)).after rfl rfl

/-- An event, and what the units make of the offers that it brought (R34, R48). -/
theorem KeepsBusy.settle {s t : State} (h : KeepsBusy s t) : KeepsBusy s (settle t) :=
  h.trans (keepsBusy_takeOffers _ t)

theorem keepsBusy_expireWindow (k : Fin 4) (u : ArmedUnit) (s : State) : KeepsBusy s (expireWindow k u s) := by
  unfold expireWindow
  dsimp only
  split <;> exact keepsBusy_settleUnit k _ s

/-! ### Event lines, counters and VETO -/

theorem keepsBusy_qualifyLine (n : Fin 16) (l : Level) (s : State) : KeepsBusy s (qualifyLine n l s) := by
  unfold qualifyLine
  dsimp only
  split
  · exact .aside rfl rfl
  · exact (keepsBusy_write _ _).after rfl rfl

theorem keepsBusy_moveLine (n : Fin 16) (l : Level) (s : State) : KeepsBusy s (moveLine n l s) := by
  unfold moveLine
  dsimp only
  split
  · split
    · exact .aside rfl rfl
    · split
      · exact keepsBusy_qualifyLine n l s
      · exact .aside rfl rfl
  · split <;> exact .aside rfl rfl

theorem keepsBusy_qualifyVeto (l : Level) (s : State) : KeepsBusy s (qualifyVeto l s) :=
  (keepsBusy_write _ _).after rfl rfl

theorem keepsBusy_moveVeto (l : Level) (s : State) : KeepsBusy s (moveVeto l s) := by
  unfold moveVeto
  dsimp only
  split <;> split <;> exact .aside rfl rfl

theorem keepsBusy_clearCounters (mask : Mask) (s : State) : KeepsBusy s (clearCounters mask s) := by
  rw [clearCounters_eq]
  exact .aside rfl rfl

/-! ### Peers heard and lost (R73 to R77, R121) -/

theorem peersBusy_iff (s : State) : s.peersBusy = true ↔ ∃ a, (s.peer a).state = .present ∧ (s.peer a).busy = true := by
  have hmem : ∀ e, e ∈ s.peers.table.toList ↔ ∃ a, s.peer a = e := fun e => by
    rw [Vector.mem_toList_iff, Vector.mem_iff_getElem]
    exact ⟨fun ⟨i, hi, he⟩ => ⟨BitVec.ofFin ⟨i, hi⟩, he⟩, fun ⟨a, ha⟩ => ⟨a.toNat, a.isLt, ha⟩⟩
  rw [State.peersBusy, List.any_eq_true]
  simp only [hmem, exists_exists_eq_and, Bool.and_eq_true, beq_iff_eq]

/-- Where BUSY is kept of the PRESENT alone, peers-busy goes by the BUSY flags alone (R76). -/
theorem FlagsOfPresent.peersBusy_iff {s : State} (h : FlagsOfPresent s) :
    s.peersBusy = true ↔ ∃ a, (s.peer a).busy = true := by
  rw [Machine.peersBusy_iff]
  refine exists_congr fun a => and_iff_right_of_imp fun hbusy => ?_
  by_contra hstate
  exact Bool.false_ne_true ((h a hstate).symm.trans hbusy)

/-- One entry of the table set, the others as they were. -/
theorem peer_setPeer (s : State) (a b : Address) (e : PeerEntry) :
    (s.setPeer a e).peer b = if b = a then e else s.peer b := by
  split
  · rename_i h
    rw [h, State.peer_setPeer_self]
  · rename_i h
    exact s.peer_setPeer_ne e (Ne.symm h)

theorem FlagsOfPresent.setPeer {s : State} (h : FlagsOfPresent s) (a : Address) {e : PeerEntry}
    (he : e.state ≠ .present → e.busy = false) : FlagsOfPresent (s.setPeer a e) := fun b => by
  rw [peer_setPeer]
  split
  · exact he
  · exact h b

/-- A peer that is heard becomes PRESENT with the BUSY flag it had, which changes no indication (R73, R76). -/
theorem keepsBusy_heard (a : Address) (s : State) :
    KeepsBusy s (s.setPeer a { s.peer a with state := .present, lastHeard := some s.now }) := by
  refine ⟨id, id, fun ⟨(hflags : FlagsOfPresent s), hgroup⟩ => ?_⟩
  have hheard := hflags.setPeer a (e := { s.peer a with state := .present, lastHeard := some s.now })
    fun h => absurd rfl h
  have hsame : (s.setPeer a { s.peer a with state := .present, lastHeard := some s.now }).peersBusy = s.peersBusy := by
    rw [Bool.eq_iff_iff, hheard.peersBusy_iff, hflags.peersBusy_iff]
    refine exists_congr fun b => ?_
    rw [peer_setPeer]
    split
    · rename_i hb
      rw [hb]
    · rfl
  exact ⟨hheard, by rw [hsame]; exact hgroup⟩

theorem keepsBusy_hearPeer (a : Address) (s : State) : KeepsBusy s (hearPeer a s) := by
  have hheard := keepsBusy_heard a s
  unfold hearPeer
  dsimp only
  split
  · exact hheard
  · exact hheard
  · exact hheard.trans (keepsBusy_write _ _)

theorem keepsBusy_stepTime (a : Address) (l x : Time) (s : State) : KeepsBusy s (stepTime a l x s) := by
  unfold stepTime
  dsimp only
  split
  · exact .refl s
  · exact ((keepsBusy_mapHeader _ _).trans (keepsBusy_write _ _)).after rfl rfl

/-- The record of a BEACON noted keeps the agreements as the sender's entry leaves them (R74). -/
theorem keepsBusy_noteBeacon (before : PeerEntry) (m : BeaconMessage) (s : State) :
    KeepsBusy (s.setPeer m.sender ((s.peer m.sender).beacon m)) (noteBeacon before m s) := by
  unfold noteBeacon
  dsimp only
  split
  · exact .refl _
  · split
    · exact .refl _
    · exact keepsBusy_write _ _

/-- An event that sets a peer's entry, and evaluates group busy at last (R75, R77, R121). -/
theorem keepsBusy_evaluated {s t : State} {a : Address} {e : PeerEntry} (h : KeepsBusy (s.setPeer a e) t)
    (hpeers : t.peers = (s.setPeer a e).peers) (he : e.state ≠ .present → e.busy = false) :
    KeepsBusy s (evaluateGroupBusy t) where
  hold hs := (keepsBusy_evaluateGroupBusy t).hold (h.hold hs)
  busy hs := (keepsBusy_evaluateGroupBusy t).busy (h.busy hs)
  group := fun ⟨hflags, _⟩ => by
    have hset : FlagsOfPresent (s.setPeer a e) := FlagsOfPresent.setPeer hflags a he
    exact groupBusySound_evaluateGroupBusy (hset.of_table (congrArg PeerMonitor.table hpeers))

theorem keepsBusy_handleBeacon (m : BeaconMessage) (l : Time) (s : State) : KeepsBusy s (handleBeacon m l s) := by
  have hnoted := keepsBusy_noteBeacon (s.peer m.sender) m (hearPeer m.sender s)
  have hnumber := hnoted.trans ((keepsBusy_stepTime m.sender l m.time _).trans (keepsBusy_beaconNumber m.highest _))
  have hpresent : ((hearPeer m.sender s).peer m.sender).state = .present := by
    rw [State.peer, hearPeer_peers]
    exact congrArg PeerEntry.state (State.peer_setPeer_self s m.sender _)
  rw [handleBeacon, markHold_eq]
  refine (keepsBusy_hearPeer m.sender s).trans ((keepsBusy_evaluated hnumber ?_ ?_).before rfl rfl)
  · rw [(captureFrame_beaconNumber _ _).peers, stepTime_peers, noteBeacon_peers]
  · exact fun h => absurd hpresent h

theorem keepsBusy_losePeer (a : Address) (s : State) : KeepsBusy s (losePeer a s) := by
  have hlost := (keepsBusy_write [.peerLost a] (s.setPeer a (s.peer a).lose)).trans (keepsBusy_raise _ .peer)
  exact keepsBusy_evaluated hlost (captureFrame_write _ _).peers fun _ => rfl

/-! ### Station states -/

theorem keepsBusy_enterRollCall (s : State) : KeepsBusy s (enterRollCall s) := by
  rw [enterRollCall_eq]
  exact .aside rfl rfl

theorem keepsBusy_armUnits (s : State) : KeepsBusy s (armUnits s) := .aside rfl rfl

theorem keepsBusy_enterMute (r : MuteReason) (s : State) : KeepsBusy s (enterMute r s) := by
  have hentry : KeepsBusy s (muteEntry r s) := .aside rfl rfl
  have hmark := hentry.trans (keepsBusy_handOnHoldMark _)
  unfold enterMute
  dsimp only
  refine .trans ?_ (keepsBusy_claimOvertakenByMute _)
  split <;> split
  · exact hmark
  · exact hentry
  · exact hmark.trans (keepsBusy_armUnits _)
  · exact hentry.trans (keepsBusy_armUnits _)

theorem keepsBusy_enterByAddress (s : State) : KeepsBusy s (enterByAddress s) := by
  unfold enterByAddress
  split
  · exact keepsBusy_enterMute _ s
  · exact keepsBusy_enterRollCall s

theorem keepsBusy_closeWindow (s : State) : KeepsBusy s (closeWindow s) :=
  (keepsBusy_enterByAddress _).after rfl rfl

theorem keepsBusy_rejoinGroup (s : State) : KeepsBusy s (rejoinGroup s) :=
  (keepsBusy_setLink s _).trans (keepsBusy_enterRollCall _)

theorem keepsBusy_endRollCall (s : State) : KeepsBusy s (endRollCall s) := by
  have hended := (keepsBusy_handOnHoldMark ((s.setMode .active).setPeers { s.peers with rollCallTimer := none })).trans
    ((keepsBusy_armUnits _).trans (keepsBusy_examineRegister _))
  exact hended.after rfl rfl

theorem keepsBusy_takeOwnAddress (s : State) : KeepsBusy s (takeOwnAddress s) := by
  unfold takeOwnAddress
  split
  · exact keepsBusy_enterMute _ s
  · exact .refl s

theorem keepsBusy_failAttempt (s : State) : KeepsBusy s (failAttempt s) := by
  unfold failAttempt
  dsimp only
  split
  · exact (keepsBusy_setLink s _).trans (keepsBusy_enterMute _ _)
  · exact keepsBusy_setLink s _

theorem keepsBusy_applyCommand (c : GroupCommand) (mask : Mask) (s : State) : KeepsBusy s (applyCommand c mask s) := by
  cases c with
  | clearCounters => exact keepsBusy_clearCounters mask s
  | hold => exact keepsBusy_setGroupHold true s
  | resume => exact (keepsBusy_setGroupHold false _).after (by split <;> rfl) (by split <;> rfl)

theorem keepsBusy_reportSuccess (a : Attempt) (s : State) : KeepsBusy s (reportSuccess a s) := by
  unfold reportSuccess
  split
  · split
    · exact .refl s
    · exact keepsBusy_announceClaim s
  · exact keepsBusy_applyCommand _ _ s
  · exact .aside rfl rfl

/-! ### Restarts (R72, R119, R121, R128, R132) -/

theorem flagsOfPresent_restartedPeers {s : State} {c : RestartCause} (h : s.peers = restartedPeers c) :
    FlagsOfPresent s := fun a _ => by
  simp [State.peer, h, restartedPeers, absentPeer]

/-- Whatever it comes from, a state is kept sound that is sound. -/
theorem KeepsBusy.of_sound {s t : State} (hold : HoldSound t) (busy : BusySound t) (group : GroupBusySound t) :
    KeepsBusy s t := ⟨fun _ => hold, fun _ => busy, fun _ => group⟩

/-- BUSY is evaluated anew at a restart, which leaves no hold and no peer (R119, R121, R132). -/
theorem keepsBusy_restartBusy {u : State} (s : State) {c : RestartCause} (hheld : u.held = false)
    (hpeers : u.peers = restartedPeers c) : KeepsBusy s (restartBusy u) :=
  .of_sound (holdSound_of_not_held hheld) rfl ⟨flagsOfPresent_restartedPeers (s := u) hpeers, rfl⟩

theorem keepsBusy_hardRestart (sa : Address) (s : State) : KeepsBusy s (hardRestart sa s) :=
  keepsBusy_restartBusy s rfl rfl

theorem keepsBusy_softRestart (sa : Address) (s : State) : KeepsBusy s (softRestart sa s) := by
  have hveto : ∀ u, KeepsBusy u (vetoOnAfterRestart u) := fun u => by
    unfold vetoOnAfterRestart
    split
    · exact keepsBusy_writeOne u _
    · exact .refl u
  unfold softRestart
  exact (keepsBusy_restartBusy s rfl rfl).trans ((hveto _).trans (keepsBusy_enterByAddress _))

/-- A store without an episode, no peer, no hold: neither own BUSY nor group busy (R119, R151). -/
theorem keepsBusy_of_powerOn (s : State) {t : State} (hctrl : t.ctrl = powerOnController)
    (hstore : t.store = emptyStore) (hconfig : t.config = defaultConfiguration)
    (hpeers : t.peers = restartedPeers .power) : KeepsBusy s t := by
  refine .of_sound (holdSound_of_register (by rw [hctrl]; rfl)) ?_ ⟨flagsOfPresent_restartedPeers hpeers, ?_⟩
  · rw [BusySound, State.busyByCounts, hctrl, hstore, hconfig]
    decide
  · rw [State.peersBusy, hctrl, hpeers]
    decide

end Sys2Proof.Machine
end

section
/-! PROOFS. Every command, and so every step, keeps register, own BUSY and group busy in agreement with their grounds
(R119, R121, section 7.3). -/

namespace Sys2Proof.Machine

/-! ### What a command answers -/

theorem KeepsBusy.answers {s t : State} (h : KeepsBusy s t) : Answers KeepsBusy s (.next t) := answers_next h

/-- An event that happens under a condition, and otherwise leaves the state as it is. -/
theorem KeepsBusy.answers_if {c : Prop} [Decidable c] {s t : State} (h : KeepsBusy s t) :
    Answers KeepsBusy s (if c then .next t else .next s) := by
  split
  · exact h.answers
  · exact (KeepsBusy.refl s).answers

theorem KeepsBusy.answers_transact {f : State → State} {s : State} (h : KeepsBusy s (f s)) :
    Answers KeepsBusy s (transact f s) := by
  rw [transact_eq]
  split
  · exact h.answers
  · exact answers_next (.aside rfl rfl)

theorem keepsBusy_dispatch {fieldsValid : Bool} {a : Address} {owner : State → State} {s : State}
    (h : ∀ u, KeepsBusy u (owner u)) : Answers KeepsBusy s (dispatch fieldsValid a owner s) := by
  have hjudged := keepsBusy_setLink s s.link.judged
  unfold dispatch
  dsimp only
  split
  · split
    · exact hjudged.answers
    · split
      · exact (hjudged.trans (keepsBusy_takeOwnAddress _)).settle.answers
      · exact (hjudged.trans (h _)).settle.answers
  · exact (KeepsBusy.refl s).answers

theorem KeepsBusy.answer {s t : State} (h : KeepsBusy s t) (r : Response) : KeepsBusy s (t.answer r) :=
  h.before rfl rfl

theorem keepsBusy_result (s : State) (r : Result) : KeepsBusy s (s.result r) := .aside rfl rfl

theorem keepsBusy_answer (s : State) (r : Response) : KeepsBusy s (s.answer r) := .aside rfl rfl

/-! ### Commands of lines, units and the group line -/

theorem keepsBusy_execLinePinChange (n : Fin 16) (l : Level) (s : State) :
    Answers KeepsBusy s (execLinePinChange n l s) := by
  unfold execLinePinChange
  split
  · exact (KeepsBusy.refl s).answers
  · split
    · exact (keepsBusy_moveLine n l s).settle.answers
    · exact answers_next (.aside rfl rfl)

theorem keepsBusy_execVetoPinChange (l : Level) (s : State) : Answers KeepsBusy s (execVetoPinChange l s) := by
  unfold execVetoPinChange
  split
  · exact (KeepsBusy.refl s).answers
  · split
    · exact (keepsBusy_moveVeto l s).answers
    · exact answers_next (.aside rfl rfl)

theorem keepsBusy_execWindowExpiry (k : Fin 4) (s : State) : Answers KeepsBusy s (execWindowExpiry k s) := by
  unfold execWindowExpiry
  split
  · split
    · exact (KeepsBusy.refl s).answers
    · exact (keepsBusy_expireWindow k _ s).settle.answers
  · exact (KeepsBusy.refl s).answers

/-- The beacon timer stops, and a beacon is requested (R78). -/
theorem keepsBusy_requestsBeacon (s : State) :
    KeepsBusy s (s.setPeers { s.peers with beaconTimer := none }).requestBeacon :=
  (keepsBusy_requestBeacon _).after rfl rfl

theorem keepsBusy_execAttemptStart (s : State) : Answers KeepsBusy s (execAttemptStart s) := by
  unfold execAttemptStart
  split
  · exact (KeepsBusy.refl s).answers
  · exact (keepsBusy_setLink s _).answers

theorem keepsBusy_execAttemptFailure (e : BitError) (s : State) : Answers KeepsBusy s (execAttemptFailure e s) := by
  have hbroken := keepsBusy_setLink s (s.link.breakOff e)
  unfold execAttemptFailure
  dsimp only
  split
  · split
    · exact (hbroken.trans (keepsBusy_enterMute _ _)).settle.answers
    · exact (hbroken.trans (keepsBusy_failAttempt _)).settle.answers
  · exact (KeepsBusy.refl s).answers

theorem keepsBusy_execAttemptSuccess (s : State) : Answers KeepsBusy s (execAttemptSuccess s) := by
  unfold execAttemptSuccess
  split
  · exact (KeepsBusy.refl s).answers
  · exact ((keepsBusy_setLink s _).trans (keepsBusy_reportSuccess _ _)).settle.answers_if

/-! ### Commands of supply, RESET and the control port -/

theorem keepsBusy_execPowerRestart (sa : Address) (s : State) : Answers KeepsBusy s (execPowerRestart sa s) := by
  unfold execPowerRestart
  split <;> exact answers_next (keepsBusy_of_powerOn s rfl rfl rfl rfl)

theorem keepsBusy_execResetLow (s : State) : Answers KeepsBusy s (execResetLow s) := by
  unfold execResetLow
  split <;> exact answers_next (.aside rfl rfl)

theorem keepsBusy_execHardRestart (sa : Address) (s : State) : Answers KeepsBusy s (execHardRestart sa s) := by
  unfold execHardRestart
  split
  · split
    · exact answers_next (keepsBusy_of_powerOn s rfl rfl rfl rfl)
    · exact (keepsBusy_hardRestart sa s).answers
  · exact answers_next (.aside rfl rfl)

/-- A write of another item than R leaves R (R156). -/
theorem Settings.write_reserve {x y : Settings} {i : Item} {v : BitVec 56} (h : x.write i v = some y)
    (hi : i ≠ .reserve) : y.reserve = x.reserve := by
  cases i with
  | reserve => exact absurd rfl hi
  | bitRate | beaconInterval | preCount | postCount | postTime | holdLimit | snapshotMask | resetMask | vetoMask
  | qualTime | recordSetting | countingEdge | enable | condA | condB | combinator | window | count | attentionMask =>
    obtain ⟨_, -, rfl⟩ := Option.map_eq_some_iff.1 h
    rfl

/-- A write of R evaluates own BUSY, and any other write leaves its grounds (R119, R157). -/
theorem keepsBusy_applyWrite {i : Item} {v : BitVec 56} {x : Settings} {s : State}
    (h : s.config.items.write i v = some x) : KeepsBusy s (applyWrite i x s) := by
  unfold applyWrite
  dsimp only
  split
  · exact keepsBusy_evaluateBusy rfl
  · rename_i hi
    refine .aside rfl ?_
    show (_ || decide (_ < x.reserve)) = _
    rw [Settings.write_reserve h hi]
    rfl

theorem keepsBusy_execWriteConfig (item index : Byte) (value : BitVec 56) (s : State) :
    Answers KeepsBusy s (execWriteConfig item index value s) := by
  apply KeepsBusy.answers_transact
  split
  · exact keepsBusy_result s _
  · split
    · exact keepsBusy_result s _
    · split
      · exact keepsBusy_result s _
      · exact (keepsBusy_applyWrite ‹_›).answer _

theorem keepsBusy_execReadConfig (item index : Byte) (s : State) :
    Answers KeepsBusy s (execReadConfig item index s) := by
  apply KeepsBusy.answers_transact
  split
  · exact keepsBusy_result s _
  · exact keepsBusy_answer s _

theorem keepsBusy_execCloseConfig (s : State) : Answers KeepsBusy s (execCloseConfig s) := by
  apply KeepsBusy.answers_transact
  split
  · exact keepsBusy_result s _
  · split
    · exact keepsBusy_answer s _
    · exact (keepsBusy_closeWindow s).answer _

theorem keepsBusy_execReadPeer (a : Byte) (s : State) : Answers KeepsBusy s (execReadPeer a s) := by
  apply KeepsBusy.answers_transact
  dsimp only
  split
  · exact keepsBusy_result s _
  · split
    · exact keepsBusy_result s _
    · exact keepsBusy_answer s _

theorem keepsBusy_execReadHistoryNext (n : Byte) (s : State) : Answers KeepsBusy s (execReadHistoryNext n s) := by
  apply KeepsBusy.answers_transact
  split
  · exact .aside rfl rfl
  · exact keepsBusy_result s _

/-- The host's readout moves the selection alone, which is no ground of BUSY (R143, R145). -/
theorem keepsBusy_setSelection {s : State} {st : Store} (hslots : st.slots = s.store.slots)
    (hentries : st.freeEntries = s.store.freeEntries) : KeepsBusy s (s.setStore st) :=
  .aside rfl (by simp only [State.busyByCounts, Store.freeSlots, State.setStore_store, State.setStore_config, hslots,
    hentries])

theorem Store.select_freeEntries (st : Store) (b : Byte) : (st.select b).1.freeEntries = st.freeEntries := by
  unfold Store.select
  split
  · rfl
  · split <;> rfl

theorem Store.readRecords_freeEntries (st : Store) (n : Nat) :
    (st.readRecords n).1.freeEntries = st.freeEntries := by
  unfold Store.readRecords
  split
  · rfl
  · dsimp only
    split <;> rfl

theorem keepsBusy_execSelectEpisode (slot : Byte) (s : State) : Answers KeepsBusy s (execSelectEpisode slot s) := by
  apply KeepsBusy.answers_transact
  exact (keepsBusy_setSelection (s.store.select_slots slot) (s.store.select_freeEntries slot)).answer _

theorem keepsBusy_execReadRecords (n : Byte) (s : State) : Answers KeepsBusy s (execReadRecords n s) := by
  apply KeepsBusy.answers_transact
  split
  · exact (keepsBusy_setSelection (s.store.readRecords_slots _) (s.store.readRecords_freeEntries _)).answer _
  · exact keepsBusy_result s _

/-- A release changes the counts alone, and evaluates own BUSY (R146, R147). -/
theorem keepsBusy_releaseSlot (i : Fin 8) (e : Episode) (s : State) : KeepsBusy s (releaseSlot i e s) :=
  keepsBusy_evaluateBusy rfl

theorem keepsBusy_execReleaseEpisode (slot : Byte) (s : State) : Answers KeepsBusy s (execReleaseEpisode slot s) := by
  apply KeepsBusy.answers_transact
  split
  · exact keepsBusy_result s _
  · split
    · exact keepsBusy_result s _
    · exact keepsBusy_result s _
    · exact ((keepsBusy_releaseSlot _ _ s).answer _).settle

theorem keepsBusy_execSoftwareTrigger (s : State) : Answers KeepsBusy s (execSoftwareTrigger s) := by
  have hrequest := keepsBusy_request .software s.time.group s
  apply KeepsBusy.answers_transact
  split
  · exact keepsBusy_result s _
  · rename_i heq
    rw [heq] at hrequest
    exact (hrequest.answer _).settle

theorem keepsBusy_execCloseEpisode (s : State) : Answers KeepsBusy s (execCloseEpisode s) := by
  apply KeepsBusy.answers_transact
  split
  · exact keepsBusy_result s _
  · split
    · exact ((keepsBusy_closeEpisode .cutByHost s).answer _).settle
    · exact keepsBusy_result s _

theorem keepsBusy_execSetLocalHold (v : Byte) (s : State) : Answers KeepsBusy s (execSetLocalHold v s) := by
  apply KeepsBusy.answers_transact
  split
  · exact ((keepsBusy_setLocalHold _ s).answer _).settle
  · exact keepsBusy_result s _

theorem keepsBusy_execSendGroupCommand (code : Byte) (mask : Mask) (s : State) :
    Answers KeepsBusy s (execSendGroupCommand code mask s) := by
  apply KeepsBusy.answers_transact
  split
  · exact keepsBusy_result s _
  · split
    · exact keepsBusy_result s _
    · split
      · exact keepsBusy_result s _
      · exact (keepsBusy_setLink s _).answer _

theorem keepsBusy_execRejoin (s : State) : Answers KeepsBusy s (execRejoin s) := by
  apply KeepsBusy.answers_transact
  split
  · exact (keepsBusy_rejoinGroup s).answer _
  · exact keepsBusy_result s _

theorem keepsBusy_execRestart (sa : Address) (s : State) : Answers KeepsBusy s (execRestart sa s) := by
  apply KeepsBusy.answers_transact
  split
  · exact keepsBusy_result s _
  · exact (keepsBusy_softRestart sa s).before rfl rfl

/-! ### The statement -/

/-- Every command keeps the three agreements. -/
theorem keepsBusy_exec (c : Instr) (s : State) : Answers KeepsBusy s (exec c s) := by
  cases c with
  | linePinChange n l => exact keepsBusy_execLinePinChange n l s
  | qualificationTimerExpiry n => exact (keepsBusy_qualifyLine n _ s).settle.answers_if
  | vetoPinChange l => exact keepsBusy_execVetoPinChange l s
  | vetoQualificationExpiry => exact (keepsBusy_qualifyVeto _ s).settle.answers_if
  | windowExpiry k => exact keepsBusy_execWindowExpiry k s
  | postTimeExpiry => exact (keepsBusy_closeEpisode .timed s).settle.answers_if
  | holdLimitExpiry => exact (keepsBusy_expireRegister s).settle.answers_if
  | attemptStart => exact keepsBusy_execAttemptStart s
  | attemptFailure e => exact keepsBusy_execAttemptFailure e s
  | attemptSuccess => exact keepsBusy_execAttemptSuccess s
  | ownAddressMessage => exact ((keepsBusy_setLink s _).trans (keepsBusy_takeOwnAddress _)).settle.answers_if
  | triggerReceived m =>
    exact keepsBusy_dispatch fun u =>
      (keepsBusy_hearPeer m.sender u).trans ((keepsBusy_controllerTrigger m _).trans (keepsBusy_bring _ _))
  | beaconReceived m => exact keepsBusy_dispatch (keepsBusy_handleBeacon m _)
  | clearCountersReceived a mask =>
    exact keepsBusy_dispatch fun u => (keepsBusy_hearPeer a u).trans (keepsBusy_applyCommand _ _ _)
  | holdReceived a => exact keepsBusy_dispatch fun u => (keepsBusy_hearPeer a u).trans (keepsBusy_applyCommand _ _ _)
  | resumeReceived a => exact keepsBusy_dispatch fun u => (keepsBusy_hearPeer a u).trans (keepsBusy_applyCommand _ _ _)
  | silenceTimerExpiry a => exact (keepsBusy_losePeer a s).settle.answers_if
  | beaconTimerExpiry => exact (keepsBusy_requestsBeacon s).answers_if
  | rollCallExpiry => exact (keepsBusy_endRollCall s).settle.answers_if
  | powerRestart sa => exact keepsBusy_execPowerRestart sa s
  | supplyLoss => exact answers_next (keepsBusy_of_powerOn s rfl rfl rfl rfl)
  | resetLow => exact keepsBusy_execResetLow s
  | hardRestart sa => exact keepsBusy_execHardRestart sa s
  | writeConfig item index value => exact keepsBusy_execWriteConfig item index value s
  | readConfig item index => exact keepsBusy_execReadConfig item index s
  | closeConfig => exact keepsBusy_execCloseConfig s
  | readPeer a => exact keepsBusy_execReadPeer a s
  | readHistoryNext n => exact keepsBusy_execReadHistoryNext n s
  | selectEpisode slot => exact keepsBusy_execSelectEpisode slot s
  | readRecords n => exact keepsBusy_execReadRecords n s
  | releaseEpisode slot => exact keepsBusy_execReleaseEpisode slot s
  | softwareTrigger => exact keepsBusy_execSoftwareTrigger s
  | closeEpisode => exact keepsBusy_execCloseEpisode s
  | setLocalHold v => exact keepsBusy_execSetLocalHold v s
  | sendGroupCommand code mask => exact keepsBusy_execSendGroupCommand code mask s
  | rejoin => exact keepsBusy_execRejoin s
  | restart sa => exact keepsBusy_execRestart sa s
  | lineFree | arbitrationLoss | messageAbandon | messageInvalid | groupTimeLimit | startBitReceived =>
    exact KeepsBusy.answers_if (.aside rfl rfl)
  | status | readCounters | readHistory | listEpisodes | readHeader | ackAttention | shortTransaction
  | unknownCommand =>
    apply KeepsBusy.answers_transact
    exact .aside rfl rfl

theorem keepsBusy_tick (s : State) : KeepsBusy s (tick s) := by
  unfold tick
  split
  · exact .aside rfl rfl
  · exact .refl s

/-- Settles O12: the tick of the clock and every command keep each of the three agreements. -/
theorem holdAndBusyKept : Obligations.HoldAndBusyKept := by
  rintro s t ⟨hhold, hbusy, hgroup⟩ hstep
  have hkeeps : KeepsBusy s t := by
    unfold step at hstep
    split at hstep
    · cases hstep
      exact keepsBusy_tick s
    · exact (keepsBusy_exec _ _ t hstep).after rfl rfl
  exact ⟨hkeeps.hold hhold, hkeeps.busy hbusy, hkeeps.group hgroup⟩

end Sys2Proof.Machine
end

section
/-! PROOFS. The held trigger register released and expired (R124, R125): its release at each examination point, and its
expiry. -/

namespace Sys2Proof.Machine

open Sys2Proof.Machine.Claims

/-! ### The expiry (R125) -/

theorem exec_holdLimitExpiry {s : State} (hr : s.running = true) (hdue : s.holdLimitDue = true) :
    exec .holdLimitExpiry s = .next (settle (expireRegister s)) :=
  if_pos (by rw [hr, hdue]; rfl)

/-- With no episode open, an expiry empties the register and writes its SUPPRESSED records (R125). -/
theorem expireRegister_of_no_episode {s : State} {h : HeldTrigger} (ho : s.ctrl.current = none)
    (hreg : s.ctrl.register = some h) (hc : h.causes ≠ []) :
    expireRegister s =
      suppressed .expired (h.causes.map Prod.fst) (s.setCtrl { s.ctrl with register := none }) := by
  simp only [expireRegister, hreg]
  exact suppress_of_no_episode .expired _ _ (by simpa using hc) ho

/-- Settles O28: the expiry that is due, with no offer waiting. -/
theorem heldTriggerExpires : Obligations.HeldTriggerExpires := by
  rintro s h ⟨hr, hs⟩ ho hreg hc hlimit
  rw [exec_holdLimitExpiry hr (s.holdLimitDue_iff.2 ⟨h, hreg, hlimit⟩), expireRegister_of_no_episode ho hreg hc,
    settle_of_no_offers]
  · rfl
  · exact hs

/-! ### The release (R98, R101, R124) -/

/-- An origination with room for its episode, whatever its causes (R98). -/
theorem originate_causes_of_room {s : State} {i : Fin 8} (h : s.ctrl.highest ≠ 4294967295#32)
    (hfree : s.store.slot i = .free) (hlow : ∀ j, j < i → s.store.slot j ≠ .free) (hf : s.store.freeEntries ≠ 0)
    (first : OwnCause × Time) (more : List (OwnCause × Time)) (overflow : Bool) :
    (originate first more overflow s).1 =
      let u := (openIn (originatorOpening (s.ctrl.highest + 1#32) s.station.address first more overflow) i
        (s.setCtrl { s.ctrl with highest := s.ctrl.highest + 1#32 })).riseOpen
      u.setLink (listTrigger u.link) := by
  simp only [originate, if_neg (show s.ctrl.highest ≠ Word32.limit from h), Store.lowestFree_eq_some hfree hlow,
    if_neg hf]
  rfl

/-- The examination of a register that can be released is its origination (R124). -/
theorem examineRegister_of_canRelease {h : HeldTrigger} {first : OwnCause × Time} {more : List (OwnCause × Time)}
    {i : Fin 8} {c : State} (hcan : CanRelease h first more i c) :
    examineRegister c = (originate first more h.overflow (c.setCtrl { c.ctrl with register := none })).1 := by
  obtain ⟨hreg, hcauses, hactive, hnone, hbusy, -⟩ := hcan
  simp only [examineRegister, hreg, hcauses, if_pos (show _ ∧ _ ∧ _ from ⟨hactive, hnone, hbusy⟩)]

/-- The release of the register, and that the units take no offer that it brings (R48, R124, R172). -/
theorem released_examineRegister {h : HeldTrigger} {first : OwnCause × Time} {more : List (OwnCause × Time)}
    {i : Fin 8} {c : State} (hr : c.running = true) (hs : OffersTaken c) (hcan : CanRelease h first more i c) :
    Released h first more i c ((examineRegister c).setOffers []) ∧
      ((examineRegister c).setOffers []).openPin = .high ∧
      ((examineRegister c).offers = [] ∨ (examineRegister c).units = disarmedUnits) := by
  have hexamine := examineRegister_of_canRelease hcan
  obtain ⟨-, -, -, -, -, hhighest, hfree, hlow, hf, hquiet⟩ := hcan
  rw [originate_causes_of_room (s := c.setCtrl { c.ctrl with register := none }) hhighest hfree hlow hf] at hexamine
  have hoffers := openIn_quiet (originatorOpening (c.ctrl.highest + 1#32) c.station.address first more h.overflow) i
    (s := c.setCtrl { c.ctrl with highest := c.ctrl.highest + 1#32, register := none }) hs hquiet
  have hopened := opened_riseOpen (originatorOpening (c.ctrl.highest + 1#32) c.station.address first more h.overflow) i
    (s := c.setCtrl { c.ctrl with highest := c.ctrl.highest + 1#32, register := none }) hr hs hf
  rw [hexamine]
  obtain ⟨hpin, hrises, hopened⟩ := hopened
  exact ⟨⟨_, rfl, hrises, hopened⟩, hpin, hoffers⟩

/-- An event that ends with the release of the register (R34, R48, R124). -/
theorem exists_released {h : HeldTrigger} {first : OwnCause × Time} {more : List (OwnCause × Time)} {i : Fin 8}
    {c : State} (hr : c.running = true) (hs : OffersTaken c) (hcan : CanRelease h first more i c) :
    ∃ t, settle (examineRegister c) = t ∧ Released h first more i c t ∧ t.openPin = .high := by
  obtain ⟨hreleased, hpin, hquiet⟩ := released_examineRegister hr hs hcan
  exact ⟨_, settle_of_quiet _ hquiet, hreleased, hpin⟩

/-! ### The examination points (R114, R121, R124) -/

theorem examineAfter_of_close {s t : State} {o : OpenEpisode} (hs : s.ctrl.current = some o)
    (ht : t.ctrl.current = none) : examineAfter s t = examineRegister t := by
  simp [examineAfter, hs, ht]

theorem examineAfter_of_fall {s t : State} (hs : s.ctrl.groupBusy = true) (ht : t.ctrl.groupBusy = false) :
    examineAfter s t = examineRegister t := by
  simp [examineAfter, hs, ht]

/-- The fall of group busy (R121). -/
theorem evaluateGroupBusy_of_fall {s c : State} (hs : s.ctrl.groupBusy = true)
    (hc : s.setCtrl { s.ctrl with groupBusy := s.ctrl.ownBusy || s.peersBusy } = c) (hfall : c.ctrl.groupBusy = false) :
    evaluateGroupBusy s = examineRegister c := by
  subst hc
  exact examineAfter_of_fall hs hfall

/-- A close with the register OCCUPIED (R114, R124). -/
theorem closeEpisode_examines {s : State} {o : OpenEpisode} {e : Episode} {status : EndStatus}
    (ho : s.ctrl.current = some o) (he : s.store.slot o.slot = .filling e) (hs : status ≠ .cutByRestart) :
    closeEpisode status s = examineRegister (closed o e status s) := by
  rw [closeEpisode, closeCurrent_eq_closed ho he hs]
  exact examineAfter_of_close ho rfl

/-- The silence of the last peer that was BUSY (R75, R121). -/
theorem losePeer_examines {a : Address} {s : State} (hc : s.ctrl.current = none) (hs : s.ctrl.groupBusy = true)
    (hfall : (silenced a s).ctrl.groupBusy = false) : losePeer a s = examineRegister (silenced a s) := by
  unfold losePeer
  rw [write_of_no_episode]
  · exact evaluateGroupBusy_of_fall hs rfl hfall
  · exact hc

/-- Outside ROLLCALL a BEACON leaves the hold mark (R82). -/
theorem markHold_of_not_rollCall {m : BeaconMessage} {s : State} (h : s.station.mode ≠ .rollCall) :
    markHold m s = s := if_neg fun hm => h hm.1

/-- With no episode open, a number at most the highest changes nothing (R92). -/
theorem beaconNumber_of_le {x : Word32} {s : State} (hc : s.ctrl.current = none) (h : x ≤ s.ctrl.highest) :
    beaconNumber x s = s := by
  have hraise : renumberByBeacon x s = s := by
    rw [renumberByBeacon_of_other (by simp [hc])]
    exact if_neg (BitVec.not_lt.2 h)
  have hgap : writeGap (x.toNat - s.ctrl.highest.toNat) s = s := if_pos (Nat.sub_eq_zero_of_le h)
  rw [beaconNumber, hraise, hgap]
  exact examineAfter_of_calm s s hc rfl

/-- What a BEACON makes of its sender's entry (R73, R74). -/
theorem beaconHeard_eq (m : BeaconMessage) (s : State) :
    beaconHeard m s = (s.setLink s.link.judged).setPeers
      { s.peers with table := s.peers.table.set m.sender.toNat (beaconEntry m s.now) m.sender.isLt } := by
  simp [beaconHeard, heard, State.setLink, State.setPeer, State.setPeers, State.peer, PeerEntry.beacon, beaconEntry,
    Link.judged]

/-- The BEACON noted, outside ROLLCALL, and group busy set as its sender's entry has it (R74, R121). -/
theorem setGroupBusy_beaconHeard {m : BeaconMessage} {s : State} (h : s.station.mode ≠ .rollCall) :
    (beaconHeard m s).setCtrl { (beaconHeard m s).ctrl with
      groupBusy := (beaconHeard m s).ctrl.ownBusy || (beaconHeard m s).peersBusy } = beaconNoted m s := by
  have hmark : (s.peers.holdMark || (decide (s.station.mode = .rollCall) && m.groupHold)) = s.peers.holdMark := by
    simp [h]
  rw [beaconHeard_eq, beaconNoted, hmark]
  rfl

/-- A BEACON without BUSY of the last peer that was BUSY (R77, R121). -/
theorem handleBeacon_examines {m : BeaconMessage} {latch : Time} {s : State} (hlost : (s.peer m.sender).state ≠ .lost)
    (htime : m.time.toNat ≤ latch.toNat + 2) (hle : m.highest ≤ s.ctrl.highest) (hroll : m.rollCall = none)
    (hm : s.station.mode ≠ .rollCall) (hc : s.ctrl.current = none) (hs : s.ctrl.groupBusy = true)
    (hfall : (beaconNoted m s).ctrl.groupBusy = false) :
    handleBeacon m latch (s.setLink s.link.judged) = examineRegister (beaconNoted m s) := by
  have hnumber : beaconNumber m.highest (beaconHeard m s) = beaconHeard m s := beaconNumber_of_le hc hle
  have hexamine : evaluateGroupBusy (beaconHeard m s) = examineRegister (beaconNoted m s) :=
    evaluateGroupBusy_of_fall hs (setGroupBusy_beaconHeard hm) hfall
  have hmark : markHold m (examineRegister (beaconNoted m s)) = examineRegister (beaconNoted m s) := by
    apply markHold_of_not_rollCall
    rw [(captureFrame_examineRegister _).station]
    exact hm
  rw [handleBeacon, hearPeer_judged hlost, noteBeacon_of_no_rollCall hroll, stepTime_of_no_step (not_steps_of_le htime),
    ← hmark, ← hexamine]
  exact congrArg (fun u => markHold m (evaluateGroupBusy u)) hnumber

/-- What a release makes of the station before the register is examined (R146, R147). -/
theorem updateBusy_release (j : Fin 8) (e : Episode) (s : State) :
    updateBusy (s.setStore (s.store.release j e)) = freed j e s := by
  have hselection : (s.store.release j e).selection =
      if s.store.selection.map Prod.fst = some j then none else s.store.selection := by
    unfold Store.release
    cases hsel : s.store.selection with
    | none => simp
    | some p => by_cases hp : p.1 = j <;> simp [hp]
  simp only [freed, ← hselection, State.requestBeacon_link]
  rw [updateBusy_eq]
  rfl

/-- The host frees what made the group busy (R147). -/
theorem releaseSlot_examines {j : Fin 8} {e : Episode} {s : State} (hs : s.ctrl.groupBusy = true)
    (hfall : (freed j e s).ctrl.groupBusy = false) : releaseSlot j e s = examineRegister (freed j e s) := by
  rw [← updateBusy_release] at hfall ⊢
  exact examineAfter_of_fall hs hfall

theorem slotIndex_ofNat (j : Fin 8) : slotIndex (BitVec.ofNat 8 j.val) = some j := by
  revert j
  decide

theorem exec_releaseEpisode {s : State} {j : Fin 8} {e : Episode} (h : Listens s) (he : s.store.slot j = .complete e) :
    exec (.releaseEpisode (BitVec.ofNat 8 j.val)) s = .next (settle ((releaseSlot j e s).result .ok)) := by
  show execReleaseEpisode _ s = _
  rw [execReleaseEpisode, transact_of_listens h, slotIndex_ofNat]
  simp only [he]

/-- The end of roll call with no hold to be handed on (R82, R83, log 12). -/
theorem endRollCall_examines {s : State} (h : s.peers.holdMark = false) :
    endRollCall s = examineRegister (rollCallEnded s) := by
  have hhanded : handOnHoldMark ((s.setMode .active).setPeers { s.peers with rollCallTimer := none }) =
      (s.setMode .active).setPeers { s.peers with rollCallTimer := none, holdMark := false } := by
    simp only [handOnHoldMark, State.setPeers_peers, h]
    rfl
  exact congrArg examineRegister ((congrArg armUnits hhanded).trans (armUnits_eq _))

/-- Settles O27: each examination point finds the register releasable, and its event ends with the release. -/
theorem heldTriggerIsReleased : Obligations.HeldTriggerIsReleased := by
  rintro s h first more i ⟨hr, hs⟩
  refine ⟨fun o e ho he hlimit hcan => ?_, fun a heardAt hbusy hpresent hheard hlimit hcan => ?_,
    fun m latch hears hlost hl hi htime hle hroll hbusy hcan => ?_, fun j e hbus he hbusy hcan => ?_,
    fun since hmode htimer hlimit hmark hcan => ?_⟩
  · rw [exec_postTimeExpiry hr (s.postTimeDue_iff.2 ⟨o, ho, hlimit⟩), closeEpisode_examines ho he (by decide)]
    obtain ⟨t, ht, hreleased, hpin⟩ := exists_released (c := closed o e .timed s) hr hs hcan
    exact ⟨t, congrArg _ ht, hreleased, hpin⟩
  · have ⟨_, _, _, hnone, hfall, _⟩ := hcan
    have hreached : (s.peer a).silenceLimit ≤ s.now - heardAt := by
      unfold PeerEntry.silenceLimit
      revert hlimit
      cases (s.peer a).interval <;> exact id
    rw [exec_silenceTimerExpiry hr ((PeerEntry.silent_iff _ _).2 ⟨hpresent, heardAt, hheard, hreached⟩),
      losePeer_examines (s := s) hnone hbusy hfall]
    obtain ⟨t, ht, hreleased, -⟩ := exists_released (c := silenced a s) hr hs hcan
    exact ⟨t, congrArg _ ht, hreleased⟩
  · have ⟨_, _, hactive, hnone, hfall, _⟩ := hcan
    have hm : s.station.mode ≠ .rollCall := by
      rw [show s.station.mode = .active from hactive]
      nofun
    rw [exec_beaconReceived hears hl hi, handleBeacon_examines hlost htime hle hroll hm hnone hbusy hfall]
    obtain ⟨t, ht, hreleased, -⟩ := exists_released (c := beaconNoted m s) hr hs hcan
    exact ⟨t, congrArg _ ht, hreleased⟩
  · have ⟨_, _, _, _, hfall, _⟩ := hcan
    obtain ⟨hreleased, -, hquiet⟩ := released_examineRegister (c := freed j e s) hr hs hcan
    rw [exec_releaseEpisode (listens_of_running hr hbus) he, releaseSlot_examines hbusy hfall]
    exact ⟨(examineRegister (freed j e s)).setOffers [],
      congrArg _ (settle_of_quiet ((examineRegister (freed j e s)).result .ok) hquiet), hreleased⟩
  · rw [exec_rollCallExpiry hr (s.rollCallDue_iff.2 ⟨hmode, since, htimer, hlimit⟩), endRollCall_examines hmark]
    obtain ⟨t, ht, hreleased, -⟩ := exists_released (c := rollCallEnded s) hr hs hcan
    exact ⟨t, congrArg _ ht, hreleased⟩

end Sys2Proof.Machine
end

section
/-! PROOFS. SET LOCAL HOLD and SEND GROUP COMMAND (R60, R129, R131, R133, R168). -/

namespace Sys2Proof.Machine

open Sys2Proof.Machine.Claims

/-! ### SET LOCAL HOLD (R129, R131, R168) -/

theorem setLocalHold_of_eq {v : Bool} {s : State} (h : s.ctrl.localHold = v) : setLocalHold v s = s := if_pos h

/-- The local hold changes, with nothing in the register to discard (R129, R131). -/
theorem setLocalHold_of_empty {v : Bool} {s : State} (h : s.ctrl.localHold ≠ v) (hr : s.ctrl.register = none) :
    setLocalHold v s = ((s.setCtrl { s.ctrl with localHold := v }).raise .hold).setLink s.requestBeacon.link := by
  rw [setLocalHold, if_neg h, holdChanged_of_empty]
  · exact requestBeacon_eq rfl rfl
  · exact fun _ => hr

theorem exec_setLocalHold_of_range {v : Byte} {s : State} (h : Listens s) (h0 : v ≠ 0#8) (h1 : v ≠ 1#8) :
    exec (.setLocalHold v) s = .next (s.answer { result := .range, body := .empty }) := by
  show execSetLocalHold v s = _
  rw [execSetLocalHold, transact_of_listens h, if_neg (not_or.2 ⟨h0, h1⟩)]
  rfl

/-- OFF and ON set the local hold, and the response says both holds (R129, R168). -/
theorem exec_setLocalHold {s : State} (h : Listens s) (v : Bool) :
    exec (.setLocalHold (if v = true then 1#8 else 0#8)) s =
      .next (settle ((setLocalHold v s).answer { result := .ok, body := .holds v s.ctrl.groupHold })) := by
  obtain ⟨hlocal, hgroup⟩ := setLocalHold_holds v s
  have hvalue : ((if v = true then 1#8 else 0#8 : Byte) == 1#8) = v := by cases v <;> rfl
  have hrange : (if v = true then 1#8 else 0#8 : Byte) = 0#8 ∨ (if v = true then 1#8 else 0#8 : Byte) = 1#8 := by
    cases v <;> decide
  show execSetLocalHold _ s = _
  rw [execSetLocalHold, transact_of_listens h, if_pos hrange, hvalue]
  dsimp only
  rw [hlocal, hgroup]

/-! ### SEND GROUP COMMAND (R60, R133) -/

theorem groupCommandOfByte_eq_none {b : Byte} (h1 : b ≠ 1#8) (h2 : b ≠ 2#8) (h3 : b ≠ 3#8) :
    groupCommandOfByte b = none := by
  unfold groupCommandOfByte
  split
  · exact absurd (BitVec.eq_of_toNat_eq ‹_›) h1
  · exact absurd (BitVec.eq_of_toNat_eq ‹_›) h2
  · exact absurd (BitVec.eq_of_toNat_eq ‹_›) h3
  · rfl

theorem groupCommandOfByte_code (c : GroupCommand) : groupCommandOfByte c.code = some c := by cases c <;> rfl

theorem listedArgument_eq (c : GroupCommand) (mask : Mask) :
    listedArgument c mask = if c = GroupCommand.clearCounters then mask else 0#16 := by cases c <;> rfl

theorem exec_sendGroupCommand_of_range {b : Byte} (mask : Mask) {s : State} (h : Listens s)
    (hb : groupCommandOfByte b = none) :
    exec (.sendGroupCommand b mask) s = .next (s.answer { result := .range, body := .empty }) := by
  show execSendGroupCommand b mask s = _
  rw [execSendGroupCommand, transact_of_listens h, hb]
  rfl

/-- The rows of R133 for a command that has a code. -/
theorem exec_sendGroupCommand (c : GroupCommand) (mask : Mask) {s : State} (h : Listens s) :
    exec (.sendGroupCommand c.code mask) s = .next
      (if s.station.mode ≠ .active then s.result .refusedState
        else if 2 ≤ s.link.list.commands.length then s.result .queueFull
        else (s.setLink (s.link.listCommand c (listedArgument c mask))).result .ok) := by
  show execSendGroupCommand c.code mask s = _
  rw [execSendGroupCommand, transact_of_listens h, groupCommandOfByte_code]

/-! ### The statement -/

/-- Settles O58: the values of SET LOCAL HOLD, and the rows of R133. -/
theorem holdIsSetAndCommandsAreListed : Obligations.HoldIsSetAndCommandsAreListed := by
  refine ⟨fun s h => ⟨fun v h0 h1 => exec_setLocalHold_of_range h h0 h1, fun v hs hv => ?_, fun v hs hv hr => ?_⟩,
    fun mask s h => ⟨fun b h1 h2 h3 => ?_, fun c => ⟨fun hm => ?_, fun hm hfull => ?_, fun hm hroom => ?_⟩⟩⟩
  · rw [exec_setLocalHold h, setLocalHold_of_eq hv, settle_of_no_offers]
    exact hs
  · rw [exec_setLocalHold h, setLocalHold_of_empty hv hr, settle_of_no_offers]
    · rfl
    · exact hs
  · exact exec_sendGroupCommand_of_range mask h (groupCommandOfByte_eq_none h1 h2 h3)
  · rw [exec_sendGroupCommand c mask h, if_pos hm]
    rfl
  · rw [exec_sendGroupCommand c mask h, if_neg (not_not_intro hm), if_pos hfull]
    rfl
  · rw [exec_sendGroupCommand c mask h, if_neg (not_not_intro hm), if_neg (Nat.not_le.2 hroom), listedArgument_eq]
    rfl

end Sys2Proof.Machine
end

section
/-! PROOFS. The changes that the episode store can take (Chapter 8), and what each keeps of pool, opening order,
selection and record order (R136, R139, R141, R143). -/

namespace Sys2Proof.Machine

/-! ### The changes -/

/-- One change of the episode store. -/
inductive StoreChange : Store → Store → Prop where
  /-- The header of a FILLING episode changes, but for its counts of records (R100, R105, R106, R110 to R112). -/
  | header {st : Store} {i : Fin 8} {e : Episode} (h : Header) (hs : st.slot i = .filling e)
      (hpre : h.preCount = e.header.preCount) (hpost : h.postCount = e.header.postCount) :
      StoreChange st (st.setSlot i (.filling { e with header := h }))
  /-- A FILLING episode takes a record and a free entry (R138). -/
  | append {st : Store} {i : Fin 8} {e : Episode} (r : Record) (hs : st.slot i = .filling e)
      (hf : st.freeEntries ≠ 0) :
      StoreChange st { st.setSlot i (.filling (e.append r)) with freeEntries := st.freeEntries - 1 }
  /-- A FILLING slot becomes COMPLETE (R140). -/
  | complete (st : Store) (i : Fin 8) (status : EndStatus) : StoreChange st (st.complete i status)
  /-- An episode opens in a FREE slot, with records for which there are free entries (R101, R137). -/
  | opening {st : Store} {i : Fin 8} {e : Episode} (hs : st.slot i = .free) (he : e.Ordered)
      (hf : e.records.length ≤ st.freeEntries) :
      StoreChange st { st.setSlot i (.filling e) with
        freeEntries := st.freeEntries - e.records.length, order := st.order ++ [i] }
  /-- A COMPLETE slot is released (R146). -/
  | release {st : Store} {i : Fin 8} {e : Episode} (hs : st.slot i = .complete e) : StoreChange st (st.release i e)
  /-- SELECT EPISODE (R143). -/
  | select (st : Store) (b : Byte) : StoreChange st (st.select b).1
  /-- READ RECORDS (R145). -/
  | readRecords (st : Store) (n : Nat) : StoreChange st (st.readRecords n).1
  /-- A restart that keeps the store clears the selection (R149). -/
  | deselect (st : Store) : StoreChange st { st with selection := none }
  /-- A POWER restart empties the store (R148). -/
  | powerOn (st : Store) : StoreChange st emptyStore

/-- Changes of the store, one after the other. -/
def StoreChanges : Store → Store → Prop := Relation.ReflTransGen StoreChange

/-- What every change keeps, their sequence keeps. -/
theorem StoreChanges.keeps {P : Store → Prop} (hP : ∀ {st st'}, StoreChange st st' → P st → P st') {st st' : Store}
    (h : StoreChanges st st') (hst : P st) : P st' := by
  induction h with
  | refl => exact hst
  | tail _ hchange ih => exact hP hchange ih

/-! ### The pool (R136) -/

theorem Store.held_eq_sum (st : Store) : st.held = ∑ i, (st.slot i).held := by
  have hmap : st.slots.toList.map Slot.held = List.ofFn (fun i => (st.slot i).held) :=
    List.ext_getElem (by simp) fun n _ _ => by
      simp only [List.getElem_map, List.getElem_ofFn, Vector.getElem_toList]
      rfl
  rw [Store.held, hmap, List.sum_ofFn]

/-- A slot set exchanges the entries it held for those it holds now. -/
theorem Store.held_setSlot (st : Store) (i : Fin 8) (x : Slot) :
    (st.setSlot i x).held + (st.slot i).held = st.held + x.held := by
  have hrest : ∑ j ∈ Finset.univ.erase i, ((st.setSlot i x).slot j).held =
      ∑ j ∈ Finset.univ.erase i, (st.slot j).held :=
    Finset.sum_congr rfl fun j hj => by rw [st.slot_setSlot_ne x (Finset.ne_of_mem_erase hj).symm]
  have hset := Finset.add_sum_erase Finset.univ (fun j => ((st.setSlot i x).slot j).held) (Finset.mem_univ i)
  have hst := Finset.add_sum_erase Finset.univ (fun j => (st.slot j).held) (Finset.mem_univ i)
  simp only [Store.slot_setSlot_self, hrest] at hset hst
  rw [Store.held_eq_sum, Store.held_eq_sum st]
  omega

/-- The counts rest on slots and free entries alone. -/
theorem Store.Balanced.of_slots {st st' : Store} (h : st.Balanced) (hs : st'.slots = st.slots)
    (hf : st'.freeEntries = st.freeEntries) : st'.Balanced := by
  simpa only [Store.Balanced, Store.held, hs, hf] using h

/-- A slot set keeps the balance where the entries it gains are taken from the pool (R136). -/
theorem Store.Balanced.of_setSlot {st st' : Store} (h : st.Balanced) {i : Fin 8} {x : Slot}
    (hs : st'.slots = (st.setSlot i x).slots) (hf : st'.freeEntries + x.held = st.freeEntries + (st.slot i).held) :
    st'.Balanced := by
  have hheld : st'.held = (st.setSlot i x).held := congrArg (fun v => (v.toList.map Slot.held).sum) hs
  have hset := st.held_setSlot i x
  unfold Store.Balanced at h ⊢
  omega

/-- Free entries and records held keep their sum (R136). -/
theorem StoreChange.balanced {st st' : Store} (h : StoreChange st st') (hst : st.Balanced) : st'.Balanced := by
  cases h with
  | header h hs => exact hst.of_setSlot rfl (by rw [hs]; rfl)
  | append r hs hf =>
    refine hst.of_setSlot rfl ?_
    rw [hs]
    simp only [Slot.held, Episode.append, List.length_append, List.length_singleton]
    omega
  | complete i status =>
    unfold Store.complete
    split
    · exact hst
    · exact hst
    · exact hst.of_setSlot rfl (by simp [*, Slot.held])
  | @opening i e hs he hf =>
    refine hst.of_setSlot rfl ?_
    rw [hs]
    simp only [Slot.held]
    omega
  | release hs => exact hst.of_setSlot rfl (by rw [hs]; rfl)
  | select b => exact hst.of_slots (st.select_slots b) (st.select_freeEntries b)
  | readRecords n => exact hst.of_slots (st.readRecords_slots n) (st.readRecords_freeEntries n)
  | deselect => exact hst.of_slots rfl rfl
  | powerOn => exact (by decide : emptyStore.freeEntries + emptyStore.held = poolSize)

/-! ### The order of records (R139) -/

/-- Every episode in the store is of this kind; `Store.Ordered` is that of `Episode.Ordered`. -/
def Store.Every (P : Episode → Prop) (st : Store) : Prop := ∀ i e, (st.slot i).episode = some e → P e

theorem Store.Every.of_slots {P : Episode → Prop} {st st' : Store} (h : st.Every P) (hs : st'.slots = st.slots) :
    st'.Every P := by
  simpa only [Store.Every, Store.slot, hs] using h

/-- A slot set, where the episode that it holds now is of the kind. -/
theorem Store.Every.of_setSlot {P : Episode → Prop} {st st' : Store} (h : st.Every P) {i : Fin 8} {x : Slot}
    (hs : st'.slots = (st.setSlot i x).slots) (hx : ∀ e, x.episode = some e → P e) : st'.Every P := by
  have hset : (st.setSlot i x).Every P := fun j e he => by
    by_cases hj : j = i
    · subst hj
      rw [Store.slot_setSlot_self] at he
      exact hx e he
    · rw [st.slot_setSlot_ne x (Ne.symm hj)] at he
      exact h j e he
  exact hset.of_slots hs

theorem Store.Every.of_filling {P : Episode → Prop} {st : Store} (h : st.Every P) {i : Fin 8} {e : Episode}
    (hs : st.slot i = .filling e) : P e := h i e (by rw [hs]; rfl)

theorem Store.every_of_free {P : Episode → Prop} {st : Store} (h : ∀ i, st.slot i = .free) : st.Every P := by
  intro i e he
  rw [h i] at he
  cases he

theorem emptyStore_slot (i : Fin 8) : emptyStore.slot i = .free := by
  simp [Store.slot, emptyStore]

/-- A header that keeps its counts keeps the order of its records. -/
theorem Episode.Ordered.of_counts {e : Episode} (he : e.Ordered) {h : Header} (hpre : h.preCount = e.header.preCount)
    (hpost : h.postCount = e.header.postCount) : Episode.Ordered { e with header := h } := by
  simpa only [Episode.Ordered, hpre, hpost] using he

/-- A record appended is the last post-record, and the ANCHOR keeps its place (R138). -/
theorem Episode.Ordered.append {e : Episode} (he : e.Ordered) (r : Record) : (e.append r).Ordered := by
  obtain ⟨hlength, anchor, hanchor, hkind⟩ := he
  refine ⟨?_, anchor, ?_, hkind⟩
  · simp only [Episode.append, List.length_append, List.length_singleton]
    omega
  · have hlt : e.header.preCount < e.records.length := by omega
    exact (List.getElem?_append_left hlt).trans hanchor

/-- Every episode's records stay in order (R139). -/
theorem StoreChange.ordered {st st' : Store} (h : StoreChange st st') (hst : st.Every Episode.Ordered) :
    st'.Every Episode.Ordered := by
  cases h with
  | header h hs hpre hpost =>
    refine hst.of_setSlot rfl ?_
    rintro _ ⟨⟩
    exact (hst.of_filling hs).of_counts hpre hpost
  | append r hs hf =>
    refine hst.of_setSlot rfl ?_
    rintro _ ⟨⟩
    exact (hst.of_filling hs).append r
  | complete i status =>
    unfold Store.complete
    split
    · exact hst
    · exact hst
    · rename_i e hs
      refine hst.of_setSlot rfl ?_
      rintro _ ⟨⟩
      exact (hst.of_filling hs).of_counts rfl rfl
  | opening hs he hf =>
    refine hst.of_setSlot rfl ?_
    rintro _ ⟨⟩
    exact he
  | release hs => exact hst.of_setSlot rfl nofun
  | select b => exact hst.of_slots (st.select_slots b)
  | readRecords n => exact hst.of_slots (st.readRecords_slots n)
  | deselect => exact hst.of_slots rfl
  | powerOn => exact Store.every_of_free emptyStore_slot

/-! ### The opening-order list (R141) -/

theorem Store.OrderSound.of_slots {st st' : Store} (h : st.OrderSound) (hs : st'.slots = st.slots)
    (ho : st'.order = st.order) : st'.OrderSound := by
  simpa only [Store.OrderSound, Store.slot, hs, ho] using h

/-- A slot that was not FREE and is not FREE keeps its place in the list. -/
theorem Store.OrderSound.of_setSlot {st st' : Store} (h : st.OrderSound) {i : Fin 8} {x : Slot}
    (hs : st'.slots = (st.setSlot i x).slots) (ho : st'.order = st.order) (hi : st.slot i ≠ .free) (hx : x ≠ .free) :
    st'.OrderSound := by
  obtain ⟨hnodup, hmem⟩ := h
  have hset : (st.setSlot i x).OrderSound := by
    refine ⟨hnodup, fun j => (hmem j).trans ?_⟩
    by_cases hj : j = i
    · subst hj
      simp [hi, hx]
    · rw [st.slot_setSlot_ne x (Ne.symm hj)]
  exact hset.of_slots hs ho

theorem Store.OrderSound.opening {st : Store} (h : st.OrderSound) {i : Fin 8} (hi : st.slot i = .free) (e : Episode)
    (n : Nat) : Store.OrderSound { st.setSlot i (.filling e) with freeEntries := n, order := st.order ++ [i] } := by
  obtain ⟨hnodup, hmem⟩ := h
  have hnew : i ∉ st.order := fun h => (hmem i).1 h hi
  refine ⟨List.nodup_append.2 ⟨hnodup, List.nodup_singleton i, ?_⟩, fun j => ?_⟩
  · rintro j hj _ hi' rfl
    exact hnew (List.mem_singleton.1 hi' ▸ hj)
  · show j ∈ st.order ++ [i] ↔ (st.setSlot i (.filling e)).slot j ≠ .free
    by_cases hj : j = i
    · subst hj
      simp
    · rw [st.slot_setSlot_ne _ (Ne.symm hj)]
      simp [hmem j, hj]

theorem Store.OrderSound.release {st : Store} (h : st.OrderSound) (i : Fin 8) (e : Episode) :
    (st.release i e).OrderSound := by
  obtain ⟨hnodup, hmem⟩ := h
  refine ⟨hnodup.filter _, fun j => ?_⟩
  show j ∈ st.order.filter (fun j => j != i) ↔ _
  by_cases hj : j = i
  · subst hj
    simp [Store.release_slot_self]
  · rw [st.release_slot_ne e (Ne.symm hj)]
    simp [hmem j, hj]

theorem Store.select_order (st : Store) (b : Byte) : (st.select b).1.order = st.order := by
  unfold Store.select
  split
  · rfl
  · split <;> rfl

theorem Store.readRecords_order (st : Store) (n : Nat) : (st.readRecords n).1.order = st.order := by
  unfold Store.readRecords
  split
  · rfl
  · split <;> rfl

/-- The list stays that of the slots that are not FREE (R141). -/
theorem StoreChange.orderSound {st st' : Store} (h : StoreChange st st') (hst : st.OrderSound) : st'.OrderSound := by
  cases h with
  | header h hs => exact hst.of_setSlot rfl rfl (by rw [hs]; nofun) nofun
  | append r hs hf => exact hst.of_setSlot rfl rfl (by rw [hs]; nofun) nofun
  | complete i status =>
    unfold Store.complete
    split
    · exact hst
    · exact hst
    · rename_i hs
      exact hst.of_setSlot rfl rfl (by rw [hs]; nofun) nofun
  | opening hs => exact hst.opening hs _ _
  | release hs => exact hst.release _ _
  | select b => exact hst.of_slots (st.select_slots b) (st.select_order b)
  | readRecords n => exact hst.of_slots (st.readRecords_slots n) (st.readRecords_order n)
  | deselect => exact hst.of_slots rfl rfl
  | powerOn => exact ⟨List.nodup_nil, fun i => iff_of_false List.not_mem_nil (not_not_intro (emptyStore_slot i))⟩

/-! ### The selection (R143) -/

/-- The selection stays sound where the COMPLETE slots stay as they are. -/
theorem Store.SelectionSound.of_complete {st st' : Store} (h : st.SelectionSound) (hsel : st'.selection = st.selection)
    (hs : ∀ i e, st.slot i = .complete e → st'.slot i = .complete e) : st'.SelectionSound := by
  unfold Store.SelectionSound at h ⊢
  rw [hsel]
  split
  · trivial
  · rename_i i pos hpos
    rw [hpos] at h
    obtain ⟨e, he, hle⟩ := h
    exact ⟨e, hs i e he, hle⟩

/-- A slot set that was not COMPLETE is no selected one. -/
theorem Store.SelectionSound.of_setSlot {st st' : Store} (h : st.SelectionSound) {i : Fin 8} {x : Slot}
    (hs : st'.slots = (st.setSlot i x).slots) (hsel : st'.selection = st.selection)
    (hi : ∀ e, st.slot i ≠ .complete e) : st'.SelectionSound := by
  refine h.of_complete hsel fun j e he => ?_
  have hj : i ≠ j := fun hij => hi e (hij ▸ he)
  have hset := (st.slot_setSlot_ne x hj).trans he
  simpa only [Store.slot, hs] using hset

theorem Store.SelectionSound.release {st : Store} (h : st.SelectionSound) (i : Fin 8) (e : Episode) :
    (st.release i e).SelectionSound := by
  have hsel : (st.release i e).selection =
      match st.selection with
      | none => none
      | some (j, pos) => if j = i then none else some (j, pos) := rfl
  unfold Store.SelectionSound at h ⊢
  rw [hsel]
  cases hold : st.selection with
  | none => trivial
  | some p =>
    obtain ⟨j, pos⟩ := p
    rw [hold] at h
    obtain ⟨ep, hep, hle⟩ := h
    by_cases hj : j = i
    · simp [hj]
    · simpa [hj] using ⟨ep, (st.release_slot_ne e (Ne.symm hj)).trans hep, hle⟩

/-- An accepted SELECT names a COMPLETE slot, at its first record (R143). -/
theorem Store.SelectionSound.select {st : Store} (h : st.SelectionSound) (b : Byte) :
    (st.select b).1.SelectionSound := by
  unfold Store.select
  split
  · exact h
  · split
    · exact h
    · exact h
    · rename_i e he
      exact ⟨e, he, Nat.zero_le _⟩

/-- The readout cursor moves over the records returned (R145). -/
theorem Store.SelectionSound.readRecords {st : Store} (h : st.SelectionSound) (n : Nat) :
    (st.readRecords n).1.SelectionSound := by
  cases hsel : st.selection with
  | none => simpa [Store.readRecords, Store.selected, hsel] using h
  | some p =>
    obtain ⟨i, pos⟩ := p
    have hsound := h
    simp only [Store.SelectionSound, hsel] at hsound
    obtain ⟨e, he, hle⟩ := hsound
    have hselected : st.selected = some (i, pos, e) := by simp [Store.selected, hsel, he, Slot.episode]
    simp only [Store.readRecords, hselected]
    split
    · exact h
    · refine ⟨e, he, ?_⟩
      simp only [List.length_take, List.length_drop]
      omega

/-- The selection names a COMPLETE slot, and its cursor stays within the records (R143). -/
theorem StoreChange.selectionSound {st st' : Store} (h : StoreChange st st') (hst : st.SelectionSound) :
    st'.SelectionSound := by
  cases h with
  | header h hs => exact hst.of_setSlot rfl rfl fun _ => by rw [hs]; nofun
  | append r hs hf => exact hst.of_setSlot rfl rfl fun _ => by rw [hs]; nofun
  | complete i status =>
    unfold Store.complete
    split
    · exact hst
    · exact hst
    · rename_i hs
      exact hst.of_setSlot rfl rfl fun _ => by rw [hs]; nofun
  | opening hs => exact hst.of_setSlot rfl rfl fun _ => by rw [hs]; nofun
  | release hs => exact hst.release _ _
  | select b => exact hst.select b
  | readRecords n => exact hst.readRecords n
  | deselect => exact trivial
  | powerOn => exact trivial

end Sys2Proof.Machine
end

section
/-! PROOFS. A step makes changes of the episode store alone, one after the other, and so keeps its pool, its opening
order, its selection and the order of its records (R136, R139, R141, R143). -/

namespace Sys2Proof.Machine

/-! ### Sequences of changes -/

/-- From `s` to `t` the episode store takes changes, one after the other. -/
def ChangesStore (s t : State) : Prop := StoreChanges s.store t.store

namespace ChangesStore

theorem trans {s t u : State} (h : ChangesStore s t) (k : ChangesStore t u) : ChangesStore s u :=
  Relation.ReflTransGen.trans h k

theorem of_change {s t : State} (h : StoreChange s.store t.store) : ChangesStore s t := Relation.ReflTransGen.single h

theorem of_eq {s t : State} (h : t.store = s.store) : ChangesStore s t := by
  rw [ChangesStore, h]
  exact Relation.ReflTransGen.refl

theorem refl (s : State) : ChangesStore s s := of_eq rfl

end ChangesStore

/-! ### Headers -/

/-- The open episode's header changes, but for its counts of records. -/
theorem changesStore_mapHeader (s : State) {f : Header → Header}
    (hf : ∀ h, (f h).preCount = h.preCount ∧ (f h).postCount = h.postCount) : ChangesStore s (s.mapHeader f) := by
  cases hopen : s.openEpisode with
  | none => rw [mapHeader_of_openEpisode_none hopen]; exact .refl s
  | some e =>
    obtain ⟨o, ho, he⟩ := openEpisode_eq_some_iff.1 hopen
    obtain ⟨hpre, hpost⟩ := hf e.header
    rw [mapHeader_of_filling ho he]
    exact .of_change (.header _ he hpre hpost)

theorem Header.addCause_counts (h : Header) (c : CauseEntry) :
    (h.addCause c).preCount = h.preCount ∧ (h.addCause c).postCount = h.postCount := by
  unfold Header.addCause
  split <;> exact ⟨rfl, rfl⟩

theorem changesStore_addCause (c : CauseEntry) (s : State) : ChangesStore s (s.mapHeader (fun h => h.addCause c)) :=
  changesStore_mapHeader s fun h => h.addCause_counts c

/-- The open episode's header changes, and what the controller holds of the episode. -/
theorem changesStore_mapOpen (s : State) {f : Header → Header} (g : OpenEpisode → OpenEpisode)
    (hf : ∀ h, (f h).preCount = h.preCount ∧ (f h).postCount = h.postCount) :
    ChangesStore s ((s.mapHeader f).mapCurrent g) := changesStore_mapHeader s hf

theorem changesStore_withdraw (s : State) : ChangesStore s s.withdrawTrigger := .of_eq rfl

theorem changesStore_raiseHighest (x : Word32) (s : State) : ChangesStore s (raiseHighest x s) := by
  rw [raiseHighest_eq]
  exact .of_eq rfl

theorem changesStore_announceClaim (s : State) : ChangesStore s (announceClaim s) := by
  unfold announceClaim
  split
  · exact .refl s
  · split
    · exact changesStore_mapOpen s _ fun _ => ⟨rfl, rfl⟩
    · exact .refl s

theorem changesStore_claimOvertakenByMute (s : State) : ChangesStore s (claimOvertakenByMute s) := by
  unfold claimOvertakenByMute
  split
  · split
    · split
      · exact changesStore_mapOpen s _ fun _ => ⟨rfl, rfl⟩
      · exact .refl s
    · exact .refl s
  · exact .refl s

/-! ### Closes and records (R114, R138, R140) -/

theorem changesStore_closeCurrent (e : EndStatus) (s : State) : ChangesStore s (closeCurrent e s) := by
  cases hc : s.ctrl.current with
  | none => rw [closeCurrent_of_none hc]; exact .refl s
  | some o =>
    have hclosed : (closeCurrent e s).store = s.store.complete o.slot e := by rw [closeCurrent_store, hc]
    exact .of_change (hclosed ▸ .complete s.store o.slot e)

theorem changesStore_updateBusy (s : State) : ChangesStore s (updateBusy s) := .of_eq (updateBusy_store s)

/-- A record goes to the open slot, or closes its episode, or both (R24, R138). -/
theorem changesStore_writeOne (s : State) (b : RecordBody) : ChangesStore s (writeOne s b) := by
  have hring : ChangesStore s (s.setRing (s.ring.put (stamp b s))) := .of_eq rfl
  refine hring.trans ?_
  rcases handOver_cases (stamp b s) (s.setRing (s.ring.put (stamp b s))) with
    h | ⟨o, e, _, he, ⟨_, h⟩ | ⟨hf, s1, rfl, ⟨_, h⟩ | ⟨_, h⟩⟩⟩ <;> rw [writeOne, h]
  · exact .refl _
  · exact changesStore_closeCurrent _ _
  · refine .trans ?_ ((changesStore_closeCurrent .full _).trans (changesStore_updateBusy _))
    exact .of_change (.append _ he hf)
  · refine .trans ?_ (changesStore_updateBusy _)
    exact .of_change (.append _ he hf)

/-! ### Openings (R101, R137) -/

theorem Ring.newest_length {r : Ring} {n : Nat} (h : n ≤ r.records.length) : (r.newest n).length = n := by
  rw [Ring.newest, List.length_drop]
  omega

/-- An opened episode holds its pre-records and then its ANCHOR (R101, R139). -/
theorem ordered_openedEpisode (o : Opening) (i : Fin 8) (s : State) : (openedEpisode o i s).Ordered := by
  have hpre : (s.ring.newest (openedEpisode o i s).header.preCount).length = (openedEpisode o i s).header.preCount :=
    Ring.newest_length ((Nat.min_le_right _ _).trans (Nat.min_le_left _ _))
  refine ⟨openedEpisode_length o i s, stamp (.anchor o.cause o.flag) s, ?_, o.cause, o.flag, rfl⟩
  refine (List.getElem?_append_right hpre.le).trans ?_
  rw [hpre, Nat.sub_self]
  rfl

/-- An opening takes no more than the free entries (R137). -/
theorem openedEpisode_length_le (o : Opening) (i : Fin 8) {s : State} (hf : s.store.freeEntries ≠ 0) :
    (openedEpisode o i s).records.length ≤ s.store.freeEntries := by
  rw [openedEpisode_length]
  omega

theorem changesStore_openIn (o : Opening) {i : Fin 8} {s : State} (hi : s.store.lowestFree = some i)
    (hf : s.store.freeEntries ≠ 0) : ChangesStore s (openIn o i s) := by
  apply ChangesStore.of_change
  rw [openIn_store]
  exact .opening (Store.slot_of_lowestFree hi) (ordered_openedEpisode o i s) (openedEpisode_length_le o i hf)

theorem changesStore_followTrigger (c : TriggerCase) (m : TriggerMessage) (s : State) :
    ChangesStore s (followTrigger c m s) := by
  have hopen : ChangesStore s (openFollower m s) := by
    have hempty : ChangesStore s (s.setCtrl { s.ctrl with register := none }) := .of_eq rfl
    refine hempty.trans ?_
    rcases openLowest_cases (followerOpening m s.ctrl.register) (s.setCtrl { s.ctrl with register := none }) with
      h | ⟨i, hi, hf, h⟩ <;> rw [openFollower, h]
    · exact .refl _
    · exact changesStore_openIn _ hi hf
  unfold followTrigger
  split
  · exact hopen
  · exact hopen.trans (.of_eq (State.riseOpen_store _))

/-! ### Received TRIGGERs and beacon numbers -/

theorem changesStore_joinEpisode (m : TriggerMessage) (s : State) : ChangesStore s (joinEpisode m s) := by
  have hcause := changesStore_addCause (remoteEntry m) s
  unfold joinEpisode
  dsimp only
  split
  · exact hcause
  · split
    · exact (hcause.trans (changesStore_withdraw _)).trans (changesStore_mapOpen _ _ fun _ => ⟨rfl, rfl⟩)
    · exact hcause.trans (changesStore_mapHeader _ fun h => by split <;> exact ⟨rfl, rfl⟩)
    · exact hcause

theorem changesStore_renumberByTrigger (m : TriggerMessage) (s : State) : ChangesStore s (renumberByTrigger m s) := by
  have hheader : ChangesStore s (s.mapHeader fun h =>
      (({ h with number := some m.number }).coTrigger m).addCause (remoteEntry m)) :=
    changesStore_mapHeader s fun _ => Header.addCause_counts _ (remoteEntry m)
  exact hheader.trans (.of_eq rfl)

theorem changesStore_triggerActions (c : TriggerCase) (m : TriggerMessage) (s : State) :
    ChangesStore s (triggerActions c m s) := by
  cases c with
  | join => exact changesStore_joinEpisode m s
  | renumber => exact changesStore_renumberByTrigger m s
  | cut => exact changesStore_closeCurrent .cutByNext s
  | notCaptured | stale | follow | late => exact .refl s

theorem changesStore_writeGap (n : Nat) (s : State) : ChangesStore s (writeGap n s) := by
  have hmark : ChangesStore s (s.setCtrl { s.ctrl with gapMark := true }) := .of_eq rfl
  unfold writeGap
  split
  · exact .refl s
  · exact hmark.trans (changesStore_writeOne _ _)

theorem changesStore_handleTrigger (c : TriggerCase) (m : TriggerMessage) (s : State) :
    ChangesStore s (handleTrigger c m s) := by
  have hrecords : ∀ n b, ChangesStore s (writeOne (writeGap n (raiseHighest m.number (triggerActions c m s))) b) :=
    fun n b => (changesStore_triggerActions c m s).trans ((changesStore_raiseHighest _ _).trans
      ((changesStore_writeGap n _).trans (changesStore_writeOne _ b)))
  unfold handleTrigger
  dsimp only
  split
  · exact (hrecords _ _).trans (changesStore_followTrigger c m _)
  · exact hrecords _ _

theorem changesStore_renumberByBeacon (x : Word32) (s : State) : ChangesStore s (renumberByBeacon x s) := by
  unfold renumberByBeacon
  split
  · split
    · split
      · split
        · exact ((changesStore_raiseHighest _ s).trans (changesStore_withdraw _)).trans
            (changesStore_mapOpen _ _ fun _ => ⟨rfl, rfl⟩)
        · exact (changesStore_raiseHighest _ s).trans (changesStore_mapHeader _ fun _ => ⟨rfl, rfl⟩)
      · exact changesStore_raiseHighest x s
    · exact changesStore_raiseHighest x s
  · exact changesStore_raiseHighest x s

/-! ### Every step -/

/-- Every elementary change to the episodes is made of changes of the store. -/
theorem episodeClosed_changesStore : EpisodeClosed ChangesStore where
  trans := ChangesStore.trans
  aside h := .of_eq h.1
  writeOne := changesStore_writeOne
  close := changesStore_closeCurrent
  openOriginator c cs ov i s _ _ hi hf := by
    have hnumber : ChangesStore s (s.setCtrl { s.ctrl with highest := s.ctrl.highest + 1#32 }) := .of_eq rfl
    exact hnumber.trans (changesStore_openIn _ hi hf)
  openLocal c x i s _ hi hf := changesStore_openIn _ hi hf
  addCause := changesStore_addCause
  timeStepped s := changesStore_mapHeader s fun _ => ⟨rfl, rfl⟩
  trigger m s := changesStore_handleTrigger _ m s
  beacon := changesStore_renumberByBeacon
  announce := changesStore_announceClaim
  overtake := changesStore_claimOvertakenByMute
  release _ _ _ hi := .of_change (.release hi)
  select b s := .of_change (.select s.store b)
  readRecords n s := .of_change (.readRecords s.store n)
  deselect s := .of_change (.deselect s.store)
  powerOn hstore _ := .of_change (hstore ▸ .powerOn _)

/-- Settles O8: every change of the store keeps the balance of its pool, and a step makes no others. -/
theorem poolBalanceKept : Obligations.PoolBalanceKept := fun _ _ hs hstep =>
  StoreChanges.keeps StoreChange.balanced (episodeClosed_changesStore.step hstep) hs

end Sys2Proof.Machine
end

section
/-! PROOFS. The causes in headers and in the held trigger register stay 1 to 4, and the snapshots at most 16 pairs (R13,
R100, R117, R122, R123): capture. -/

namespace Sys2Proof.Machine

/-! ### Headers and the register -/

/-- An episode whose header holds 1 to 4 causes and at most 16 snapshot pairs (R117). -/
def Episode.Bounded (e : Episode) : Prop := e.header.Bounded

/-- An event from `s` to `t` keeps the bounds of causes and snapshots, in headers and register. -/
def KeepsCauses (s t : State) : Prop := CausesBounded s → CausesBounded t

namespace KeepsCauses

theorem trans {s t u : State} (h : KeepsCauses s t) (k : KeepsCauses t u) : KeepsCauses s u := k ∘ h

/-- An event that changes headers, and leaves the register. -/
theorem of_store {s t : State} (hs : s.store.Every Episode.Bounded → t.store.Every Episode.Bounded)
    (hr : t.ctrl.register = s.ctrl.register) : KeepsCauses s t :=
  fun ⟨hheaders, hregister⟩ => ⟨hs hheaders, by rwa [hr]⟩

/-- An event that touches neither slots nor register. -/
theorem of_slots {s t : State} (hs : t.store.slots = s.store.slots) (hr : t.ctrl.register = s.ctrl.register) :
    KeepsCauses s t := of_store (fun h => h.of_slots hs) hr

theorem aside {s t : State} (hs : t.store = s.store) (hr : t.ctrl.register = s.ctrl.register) : KeepsCauses s t :=
  of_slots (congrArg Store.slots hs) hr

theorem refl (s : State) : KeepsCauses s s := id

/-- An event that first touches neither store nor register. -/
theorem after {s u t : State} (k : KeepsCauses u t) (hs : u.store = s.store) (hr : u.ctrl.register = s.ctrl.register) :
    KeepsCauses s t := (aside hs hr).trans k

/-- An event that at last touches neither store nor register. -/
theorem before {s u t : State} (k : KeepsCauses s u) (hs : t.store = u.store) (hr : t.ctrl.register = u.ctrl.register) :
    KeepsCauses s t := k.trans (aside hs hr)

end KeepsCauses

theorem keepsCauses_empty (s : State) : KeepsCauses s (s.setCtrl { s.ctrl with register := none }) :=
  fun ⟨hheaders, _⟩ => ⟨hheaders, nofun⟩

theorem keepsCauses_setLink (s : State) (l : Link) : KeepsCauses s (s.setLink l) := .aside rfl rfl

theorem keepsCauses_raise (s : State) (f : Attention) : KeepsCauses s (s.raise f) := .aside rfl rfl

theorem keepsCauses_bring (s : State) (o : Offer) : KeepsCauses s (s.bring o) := .aside rfl rfl

theorem keepsCauses_requestBeacon (s : State) : KeepsCauses s s.requestBeacon :=
  .aside s.requestBeacon_store (congrArg _ s.requestBeacon_ctrl)

/-- The open episode changes, and its header keeps its bounds. -/
theorem keepsCauses_setFilling {s : State} {st : Store} {i : Fin 8} {e e' : Episode}
    (he : s.store.slot i = .filling e) (hs : st.slots = (s.store.setSlot i (.filling e')).slots)
    (hb : e.Bounded → e'.Bounded) : KeepsCauses s (s.setStore st) := by
  refine .of_store (fun h => h.of_setSlot hs ?_) rfl
  rintro _ ⟨⟩
  exact hb (h.of_filling he)

theorem keepsCauses_mapHeader (s : State) {f : Header → Header} (hf : ∀ h, h.Bounded → (f h).Bounded) :
    KeepsCauses s (s.mapHeader f) := by
  cases hopen : s.openEpisode with
  | none => rw [mapHeader_of_openEpisode_none hopen]; exact .refl s
  | some e =>
    obtain ⟨o, ho, he⟩ := openEpisode_eq_some_iff.1 hopen
    rw [mapHeader_of_filling ho he]
    exact keepsCauses_setFilling he rfl (hf _)

/-- A header that holds four causes takes no more (R100). -/
theorem Header.Bounded.addCause {h : Header} (hb : h.Bounded) (c : CauseEntry) : (h.addCause c).Bounded := by
  obtain ⟨hpos, hle, hsnapshot⟩ := hb
  unfold Header.addCause
  split
  · refine ⟨?_, ?_, hsnapshot⟩ <;> simp only [List.length_append, List.length_singleton] <;> omega
  · exact ⟨hpos, hle, hsnapshot⟩

/-- A cause added to the open episode (R100). -/
theorem keepsCauses_addCause (c : CauseEntry) (s : State) : KeepsCauses s (s.mapHeader (fun h => h.addCause c)) :=
  keepsCauses_mapHeader s fun _ hb => hb.addCause c

/-! ### Closes, records and openings (R13, R24, R101, R114, R138) -/

theorem keepsCauses_closeCurrent (e : EndStatus) (s : State) : KeepsCauses s (closeCurrent e s) := by
  refine .of_store (fun h => ?_) (by rw [closeCurrent_ctrl])
  rw [closeCurrent_store]
  split
  · exact h
  · unfold Store.complete
    split
    · exact h
    · exact h
    · rename_i ep hep
      refine h.of_setSlot rfl ?_
      rintro _ ⟨⟩
      exact h.of_filling (e := ep) hep

theorem keepsCauses_updateBusy (s : State) : KeepsCauses s (updateBusy s) :=
  .aside (updateBusy_store s) (updateBusy_register s)

theorem keepsCauses_writeOne (s : State) (b : RecordBody) : KeepsCauses s (writeOne s b) := by
  have hring : KeepsCauses s (s.setRing (s.ring.put (stamp b s))) := .aside rfl rfl
  refine hring.trans ?_
  rcases handOver_cases (stamp b s) (s.setRing (s.ring.put (stamp b s))) with
    h | ⟨o, e, _, he, ⟨_, h⟩ | ⟨_, s1, h1, hfull⟩⟩
  · rw [writeOne, h]; exact .refl _
  · rw [writeOne, h]; exact keepsCauses_closeCurrent _ _
  · have happend : KeepsCauses (s.setRing (s.ring.put (stamp b s))) s1 :=
      h1 ▸ keepsCauses_setFilling (e' := e.append (stamp b s)) he rfl id
    rcases hfull with ⟨_, h⟩ | ⟨_, h⟩ <;> rw [writeOne, h]
    · exact happend.trans ((keepsCauses_closeCurrent .full s1).trans (keepsCauses_updateBusy _))
    · exact happend.trans (keepsCauses_updateBusy s1)

theorem keepsCauses_writeAll (bs : List RecordBody) (s : State) : KeepsCauses s (writeAll bs s) := by
  induction bs generalizing s with
  | nil => exact .refl s
  | cons b bs ih => exact (keepsCauses_writeOne s b).trans (ih _)

theorem keepsCauses_suppressAll (f : SuppressedFlag) (cs : List OwnCause) (s : State) :
    KeepsCauses s (suppressAll f cs s) := by
  cases cs with
  | nil => exact .refl s
  | cons c cs => exact (keepsCauses_writeAll _ s).before rfl rfl

/-- A snapshot holds a pair for each channel of its mask, of which there are 16 (R13). -/
theorem snapshotOf_length_le (m : Mask) (bank : Vector Word32 16) : (snapshotOf m bank).length ≤ 16 := by
  rw [snapshotOf, List.length_map]
  exact (List.length_filter_le _ _).trans List.length_finRange.le

/-- An opening that its rule gives 1 to 4 causes. -/
theorem keepsCauses_openIn {o : Opening} (i : Fin 8) (s : State) (hpos : 1 ≤ o.causes.length)
    (hle : o.causes.length ≤ 4) : KeepsCauses s (openIn o i s) := by
  refine .of_store (fun h => ?_) (openIn_register o i s)
  rw [openIn_store]
  refine h.of_setSlot rfl ?_
  rintro _ ⟨⟩
  exact ⟨hpos, hle, snapshotOf_length_le _ _⟩

theorem keepsCauses_riseOpen (s : State) : KeepsCauses s s.riseOpen :=
  .aside s.riseOpen_store (congrArg _ s.riseOpen_ctrl)

/-- An ORIGINATOR has the causes of its origination (R98, R102). -/
theorem keepsCauses_originate {c : OwnCause × Time} {cs : List (OwnCause × Time)} (ov : Bool) (s : State)
    (h : (c :: cs).length ≤ 4) : KeepsCauses s (originate c cs ov s).1 := by
  rcases originate_cases c cs ov s with ⟨f, heq⟩ | ⟨i, s2, _, _, _, rfl, heq⟩ <;> rw [heq]
  · exact keepsCauses_suppressAll f ((c :: cs).map Prod.fst) s
  · have hnumber : KeepsCauses s (s.setCtrl { s.ctrl with highest := s.ctrl.highest + 1#32 }) := .aside rfl rfl
    have hopen := hnumber.trans (keepsCauses_openIn
      (o := originatorOpening (s.ctrl.highest + 1#32) s.station.address c cs ov) i _ (by simp [originatorOpening])
      (by simpa [originatorOpening] using h))
    exact (hopen.trans (keepsCauses_riseOpen _)).before rfl rfl

/-! ### The register and its examination (R124 to R126) -/

/-- A register that is released originates with its causes, 1 to 4 of them (R124). -/
theorem keepsCauses_examineRegister (s : State) : KeepsCauses s (examineRegister s) := by
  rcases examineRegister_cases s with h | ⟨r, hr, _, _, _, ⟨_, h⟩ | ⟨c, cs, hcs, h⟩⟩ <;> rw [h]
  · exact .refl s
  · exact keepsCauses_empty s
  · intro hs
    have hle : (c :: cs).length ≤ 4 := hcs ▸ (hs.2 r hr).2
    exact keepsCauses_originate _ _ hle (keepsCauses_empty s hs)

theorem KeepsCauses.examineAfter {s t : State} (h : KeepsCauses s t) (before : State) :
    KeepsCauses s (examineAfter before t) := by
  rcases examineAfter_cases before t with heq | heq <;> rw [heq]
  · exact h
  · exact h.trans (keepsCauses_examineRegister t)

theorem keepsCauses_write (bs : List RecordBody) (s : State) : KeepsCauses s (write bs s) :=
  (keepsCauses_writeAll bs s).examineAfter s

theorem keepsCauses_suppress (f : SuppressedFlag) (cs : List OwnCause) (s : State) :
    KeepsCauses s (suppress f cs s) := (keepsCauses_suppressAll f cs s).examineAfter s

theorem keepsCauses_closeEpisode (e : EndStatus) (s : State) : KeepsCauses s (closeEpisode e s) :=
  (keepsCauses_closeCurrent e s).examineAfter s

theorem keepsCauses_evaluateBusy (s : State) : KeepsCauses s (evaluateBusy s) :=
  (keepsCauses_updateBusy s).examineAfter s

theorem keepsCauses_evaluateGroupBusy (s : State) : KeepsCauses s (evaluateGroupBusy s) := by
  apply KeepsCauses.examineAfter
  exact .aside rfl rfl

theorem keepsCauses_discardRegister (s : State) : KeepsCauses s (discardRegister s) := by
  unfold discardRegister
  split
  · exact .refl s
  · exact (keepsCauses_empty s).trans (keepsCauses_suppress _ _ _)

theorem keepsCauses_expireRegister (s : State) : KeepsCauses s (expireRegister s) := by
  unfold expireRegister
  split
  · exact .refl s
  · exact (keepsCauses_empty s).trans (keepsCauses_suppress _ _ _)

/-! ### Trigger requests (R97) -/

/-- A request held starts a register of one cause, or merges into one of fewer than four (R122, R123). -/
theorem keepsCauses_holdRequest (c : OwnCause) (x : Time) (s : State) : KeepsCauses s (holdRequest c x s).1 := by
  unfold holdRequest
  split
  · exact keepsCauses_suppress _ _ s
  · split
    · rintro ⟨hheaders, -⟩
      refine ⟨hheaders, ?_⟩
      rintro _ ⟨⟩
      exact ⟨Nat.le_refl 1, Nat.le_add_left 1 3⟩
    · rename_i r hr
      rintro ⟨hheaders, hregister⟩
      obtain ⟨hpos, hle⟩ := hregister r hr
      split
      · rename_i hlt
        refine ⟨hheaders, ?_⟩
        rintro _ ⟨⟩
        simp only [List.length_append, List.length_singleton]
        omega
      · refine ⟨hheaders, ?_⟩
        rintro _ ⟨⟩
        exact ⟨hpos, hle⟩

theorem keepsCauses_openLocal (c : OwnCause) (x : Time) (s : State) : KeepsCauses s (openLocal c x s).1 := by
  unfold openLocal
  split
  · exact keepsCauses_suppress _ _ s
  · split
    · exact keepsCauses_suppress _ _ s
    · exact (keepsCauses_openIn _ s (by simp [localOpening]) (by simp [localOpening])).trans (keepsCauses_riseOpen _)

theorem keepsCauses_requestNoEpisode (c : OwnCause) (x : Time) (s : State) :
    KeepsCauses s (requestNoEpisode c x s).1 := by
  unfold requestNoEpisode
  split
  · exact keepsCauses_openLocal c x s
  · split
    · exact keepsCauses_holdRequest c x s
    · exact keepsCauses_originate _ s (by decide : 1 ≤ 4)

theorem keepsCauses_request (c : OwnCause) (x : Time) (s : State) : KeepsCauses s (request c x s).1 := by
  unfold request
  split
  · exact .refl s
  · split
    · exact keepsCauses_suppress _ _ s
    · split
      · exact keepsCauses_addCause (.own c x) s
      · exact keepsCauses_requestNoEpisode c x s

/-! ### Received TRIGGERs, beacon numbers and claims -/

/-- The open episode's header changes, and what the controller holds of the episode. -/
theorem keepsCauses_mapOpen (s : State) {f : Header → Header} (g : OpenEpisode → OpenEpisode)
    (hf : ∀ h, h.Bounded → (f h).Bounded) : KeepsCauses s ((s.mapHeader f).mapCurrent g) :=
  (keepsCauses_mapHeader s hf).before rfl rfl

theorem keepsCauses_raiseHighest (x : Word32) (s : State) : KeepsCauses s (raiseHighest x s) := by
  rw [raiseHighest_eq]
  exact .aside rfl rfl

theorem keepsCauses_writeGap (n : Nat) (s : State) : KeepsCauses s (writeGap n s) := by
  unfold writeGap
  split
  · exact .refl s
  · exact (keepsCauses_writeOne _ _).after rfl rfl

theorem keepsCauses_joinEpisode (m : TriggerMessage) (s : State) : KeepsCauses s (joinEpisode m s) := by
  have hcause := keepsCauses_addCause (remoteEntry m) s
  unfold joinEpisode
  dsimp only
  split
  · exact hcause
  · split
    · exact (hcause.trans (keepsCauses_setLink _ _)).trans (keepsCauses_mapOpen _ _ fun _ hb => hb)
    · exact hcause.trans (keepsCauses_mapHeader _ fun h hb => by split <;> exact hb)
    · exact hcause

theorem keepsCauses_renumberByTrigger (m : TriggerMessage) (s : State) : KeepsCauses s (renumberByTrigger m s) := by
  have hheader : KeepsCauses s (s.mapHeader fun h =>
      (({ h with number := some m.number }).coTrigger m).addCause (remoteEntry m)) :=
    keepsCauses_mapHeader s fun h hb => Header.Bounded.addCause (h := ({ h with number := some m.number }).coTrigger m)
      hb (remoteEntry m)
  exact hheader.before rfl rfl

theorem keepsCauses_triggerActions (c : TriggerCase) (m : TriggerMessage) (s : State) :
    KeepsCauses s (triggerActions c m s) := by
  cases c with
  | join => exact keepsCauses_joinEpisode m s
  | renumber => exact keepsCauses_renumberByTrigger m s
  | cut => exact keepsCauses_closeCurrent .cutByNext s
  | notCaptured | stale | follow | late => exact .refl s

/-- A FOLLOWER has the REMOTE cause, and with those of the register four at most (R108). -/
theorem keepsCauses_openFollower (m : TriggerMessage) (s : State) : KeepsCauses s (openFollower m s) := by
  refine (keepsCauses_empty s).trans ?_
  rcases openLowest_cases (followerOpening m s.ctrl.register) (s.setCtrl { s.ctrl with register := none }) with
    h | ⟨i, _, _, h⟩ <;> rw [openFollower, h]
  · exact .refl _
  · exact keepsCauses_openIn i _ (by simp [followerOpening]) (by simp [followerOpening])

theorem keepsCauses_followTrigger (c : TriggerCase) (m : TriggerMessage) (s : State) :
    KeepsCauses s (followTrigger c m s) := by
  unfold followTrigger
  split
  · exact keepsCauses_openFollower m s
  · exact (keepsCauses_openFollower m s).trans (keepsCauses_riseOpen _)

theorem keepsCauses_handleTrigger (c : TriggerCase) (m : TriggerMessage) (s : State) :
    KeepsCauses s (handleTrigger c m s) := by
  have hrecords : ∀ n b, KeepsCauses s (writeOne (writeGap n (raiseHighest m.number (triggerActions c m s))) b) :=
    fun n b => (keepsCauses_triggerActions c m s).trans ((keepsCauses_raiseHighest _ _).trans
      ((keepsCauses_writeGap n _).trans (keepsCauses_writeOne _ b)))
  unfold handleTrigger
  dsimp only
  split
  · exact (hrecords _ _).trans (keepsCauses_followTrigger c m _)
  · exact hrecords _ _

theorem keepsCauses_controllerTrigger (m : TriggerMessage) (s : State) : KeepsCauses s (controllerTrigger m s) :=
  (keepsCauses_handleTrigger _ m s).examineAfter s

theorem keepsCauses_renumberByBeacon (x : Word32) (s : State) : KeepsCauses s (renumberByBeacon x s) := by
  unfold renumberByBeacon
  split
  · split
    · split
      · split
        · exact ((keepsCauses_raiseHighest _ s).trans (keepsCauses_setLink _ _)).trans
            (keepsCauses_mapOpen _ _ fun _ hb => hb)
        · exact (keepsCauses_raiseHighest _ s).trans (keepsCauses_mapHeader _ fun _ hb => hb)
      · exact keepsCauses_raiseHighest x s
    · exact keepsCauses_raiseHighest x s
  · exact keepsCauses_raiseHighest x s

theorem keepsCauses_beaconNumber (x : Word32) (s : State) : KeepsCauses s (beaconNumber x s) :=
  ((keepsCauses_renumberByBeacon x s).trans (keepsCauses_writeGap _ _)).examineAfter s

theorem keepsCauses_announceClaim (s : State) : KeepsCauses s (announceClaim s) := by
  unfold announceClaim
  split
  · exact .refl s
  · split
    · exact keepsCauses_mapOpen s _ fun _ hb => hb
    · exact .refl s

theorem keepsCauses_claimOvertakenByMute (s : State) : KeepsCauses s (claimOvertakenByMute s) := by
  unfold claimOvertakenByMute
  split
  · split
    · split
      · exact keepsCauses_mapOpen s _ fun _ hb => hb
      · exact .refl s
    · exact .refl s
  · exact .refl s

/-! ### Holds (section 7.4) -/

theorem keepsCauses_holdChanged (v : Bool) (s : State) : KeepsCauses s (holdChanged v s) := by
  have hflag : ∀ u : State, KeepsCauses u (u.raise .hold).requestBeacon := fun u =>
    (keepsCauses_requestBeacon _).after rfl rfl
  cases v with
  | false => exact hflag s
  | true => exact (keepsCauses_discardRegister s).trans (hflag _)

theorem keepsCauses_setLocalHold (v : Bool) (s : State) : KeepsCauses s (setLocalHold v s) := by
  unfold setLocalHold
  split
  · exact .refl s
  · exact (keepsCauses_holdChanged v _).after rfl rfl

theorem keepsCauses_setGroupHold (v : Bool) (s : State) : KeepsCauses s (setGroupHold v s) := by
  unfold setGroupHold
  split
  · exact .refl s
  · exact (keepsCauses_holdChanged v _).after rfl rfl

theorem keepsCauses_handOnHoldMark (s : State) : KeepsCauses s (handOnHoldMark s) := by
  unfold handOnHoldMark
  dsimp only
  split
  · exact (keepsCauses_setGroupHold true _).after rfl rfl
  · exact .aside rfl rfl

end Sys2Proof.Machine
end

section
/-! PROOFS. The causes in headers and in the held trigger register stay 1 to 4, and the snapshots at most 16 pairs (R13,
R100, R117, R122, R123): units, lines, peers, station states and every command. -/

namespace Sys2Proof.Machine

/-! ### Units (R34, R45, R46) -/

theorem keepsCauses_fire (k : Fin 4) (s : State) : KeepsCauses s (fire k s) :=
  (keepsCauses_write _ s).trans (keepsCauses_request _ _ _)

theorem keepsCauses_settleUnit (k : Fin 4) (r : ArmedUnit × Bool) (s : State) : KeepsCauses s (settleUnit k r s) := by
  unfold settleUnit
  dsimp only
  split
  · split
    · exact (keepsCauses_fire k _).after rfl rfl
    · exact .aside rfl rfl
  · exact .aside rfl rfl

theorem keepsCauses_unitTakes (o : Offer) (s : State) (k : Fin 4) : KeepsCauses s (unitTakes o s k) := by
  unfold unitTakes
  split
  · exact .refl s
  · exact keepsCauses_settleUnit k _ s

theorem keepsCauses_takeOfferIn (order : List (Fin 4)) (o : Offer) (s : State) :
    KeepsCauses s (takeOfferIn order o s) := by
  unfold takeOfferIn
  induction order generalizing s with
  | nil => exact .refl s
  | cons k order ih => exact (keepsCauses_unitTakes o s k).trans (ih _)

theorem keepsCauses_takeOffers (n : Nat) (s : State) : KeepsCauses s (takeOffers n s) := by
  induction n generalizing s with
  | zero => exact .refl s
  | succ n ih =>
    unfold takeOffers
    split
    · exact .refl s
    · exact ((keepsCauses_takeOfferIn _ _ _).trans (ih _)).after rfl rfl

/-- An event, and what the units make of the offers that it brought (R34, R48). -/
theorem KeepsCauses.settle {s t : State} (h : KeepsCauses s t) : KeepsCauses s (settle t) :=
  h.trans (keepsCauses_takeOffers _ t)

theorem keepsCauses_expireWindow (k : Fin 4) (u : ArmedUnit) (s : State) : KeepsCauses s (expireWindow k u s) := by
  unfold expireWindow
  dsimp only
  split <;> exact keepsCauses_settleUnit k _ s

/-! ### Event lines, counters and VETO -/

theorem keepsCauses_qualifyLine (n : Fin 16) (l : Level) (s : State) : KeepsCauses s (qualifyLine n l s) := by
  unfold qualifyLine
  dsimp only
  split
  · exact .aside rfl rfl
  · exact (keepsCauses_write _ _).after rfl rfl

theorem keepsCauses_moveLine (n : Fin 16) (l : Level) (s : State) : KeepsCauses s (moveLine n l s) := by
  unfold moveLine
  dsimp only
  split
  · split
    · exact .aside rfl rfl
    · split
      · exact keepsCauses_qualifyLine n l s
      · exact .aside rfl rfl
  · split <;> exact .aside rfl rfl

theorem keepsCauses_qualifyVeto (l : Level) (s : State) : KeepsCauses s (qualifyVeto l s) :=
  (keepsCauses_write _ _).after rfl rfl

theorem keepsCauses_moveVeto (l : Level) (s : State) : KeepsCauses s (moveVeto l s) := by
  unfold moveVeto
  dsimp only
  split <;> split <;> exact .aside rfl rfl

/-! ### Peers heard and lost (R73 to R77) -/

theorem keepsCauses_hearPeer (a : Address) (s : State) : KeepsCauses s (hearPeer a s) := by
  unfold hearPeer
  dsimp only
  split
  · exact .aside rfl rfl
  · exact .aside rfl rfl
  · exact (keepsCauses_write _ _).after rfl rfl

theorem keepsCauses_noteBeacon (before : PeerEntry) (m : BeaconMessage) (s : State) :
    KeepsCauses s (noteBeacon before m s) := by
  unfold noteBeacon
  dsimp only
  split
  · exact .aside rfl rfl
  · split
    · exact .aside rfl rfl
    · exact (keepsCauses_write _ _).after rfl rfl

/-- A step of group time sets the TIME-STEPPED flag of an open episode (R90). -/
theorem keepsCauses_stepTime (a : Address) (l x : Time) (s : State) : KeepsCauses s (stepTime a l x s) := by
  unfold stepTime
  dsimp only
  split
  · exact .refl s
  · refine ((keepsCauses_mapHeader _ ?_).trans (keepsCauses_write _ _)).after rfl rfl
    exact fun _ hb => hb

theorem keepsCauses_handleBeacon (m : BeaconMessage) (l : Time) (s : State) : KeepsCauses s (handleBeacon m l s) := by
  have hnoted := (keepsCauses_hearPeer m.sender s).trans (keepsCauses_noteBeacon (s.peer m.sender) m _)
  have hstepped := hnoted.trans (keepsCauses_stepTime m.sender l m.time _)
  rw [handleBeacon, markHold_eq]
  exact (hstepped.trans ((keepsCauses_beaconNumber m.highest _).trans (keepsCauses_evaluateGroupBusy _))).before rfl rfl

theorem keepsCauses_losePeer (a : Address) (s : State) : KeepsCauses s (losePeer a s) := by
  have hlost := (keepsCauses_write [.peerLost a] (s.setPeer a (s.peer a).lose)).trans (keepsCauses_raise _ .peer)
  exact (hlost.trans (keepsCauses_evaluateGroupBusy _)).after rfl rfl

/-! ### Station states -/

theorem keepsCauses_enterRollCall (s : State) : KeepsCauses s (enterRollCall s) := by
  rw [enterRollCall_eq]
  exact .aside rfl rfl

theorem keepsCauses_armUnits (s : State) : KeepsCauses s (armUnits s) := .aside rfl rfl

theorem keepsCauses_enterMute (r : MuteReason) (s : State) : KeepsCauses s (enterMute r s) := by
  have hentry : KeepsCauses s (muteEntry r s) := .aside rfl rfl
  have hmark := hentry.trans (keepsCauses_handOnHoldMark _)
  unfold enterMute
  dsimp only
  refine .trans ?_ (keepsCauses_claimOvertakenByMute _)
  split <;> split
  · exact hmark
  · exact hentry
  · exact hmark.trans (keepsCauses_armUnits _)
  · exact hentry.trans (keepsCauses_armUnits _)

theorem keepsCauses_enterByAddress (s : State) : KeepsCauses s (enterByAddress s) := by
  unfold enterByAddress
  split
  · exact keepsCauses_enterMute _ s
  · exact keepsCauses_enterRollCall s

theorem keepsCauses_endRollCall (s : State) : KeepsCauses s (endRollCall s) := by
  have hmark := keepsCauses_handOnHoldMark ((s.setMode .active).setPeers { s.peers with rollCallTimer := none })
  exact (hmark.trans ((keepsCauses_armUnits _).trans (keepsCauses_examineRegister _))).after rfl rfl

theorem keepsCauses_takeOwnAddress (s : State) : KeepsCauses s (takeOwnAddress s) := by
  unfold takeOwnAddress
  split
  · exact keepsCauses_enterMute _ s
  · exact .refl s

theorem keepsCauses_failAttempt (s : State) : KeepsCauses s (failAttempt s) := by
  unfold failAttempt
  dsimp only
  split
  · exact (keepsCauses_enterMute _ _).after rfl rfl
  · exact .aside rfl rfl

theorem keepsCauses_applyCommand (c : GroupCommand) (mask : Mask) (s : State) :
    KeepsCauses s (applyCommand c mask s) := by
  cases c with
  | clearCounters => exact .aside (clearCounters_store mask s) (congrArg _ (clearCounters_ctrl mask s))
  | hold => exact keepsCauses_setGroupHold true s
  | resume => exact (keepsCauses_setGroupHold false _).after (by split <;> rfl) (by split <;> rfl)

theorem keepsCauses_reportSuccess (a : Attempt) (s : State) : KeepsCauses s (reportSuccess a s) := by
  unfold reportSuccess
  split
  · split
    · exact .refl s
    · exact keepsCauses_announceClaim s
  · exact keepsCauses_applyCommand _ _ s
  · exact .aside rfl rfl

/-! ### Restarts (R118, R128, R148, R149) -/

/-- A restart that keeps the store closes the open episode and empties the register (R118, R128, R149). -/
theorem keepsCauses_restarted {s t : State} (hs : t.store.slots = (closeCurrent .cutByRestart s).store.slots)
    (hr : t.ctrl.register = none) : KeepsCauses s t := by
  have hempty := (keepsCauses_closeCurrent .cutByRestart s).trans (keepsCauses_empty _)
  exact hempty.trans (.of_slots hs hr)

theorem keepsCauses_softRestart (sa : Address) (s : State) : KeepsCauses s (softRestart sa s) := by
  have hveto : ∀ u, KeepsCauses u (vetoOnAfterRestart u) := fun u => by
    unfold vetoOnAfterRestart
    split
    · exact keepsCauses_writeOne u _
    · exact .refl u
  unfold softRestart
  refine .trans ?_ ((hveto _).trans (keepsCauses_enterByAddress _))
  exact keepsCauses_restarted rfl rfl

/-- A store without an episode, and an EMPTY register (R128, R148). -/
theorem keepsCauses_of_powerOn (s : State) {t : State} (hstore : t.store = emptyStore)
    (hctrl : t.ctrl = powerOnController) : KeepsCauses s t := by
  refine fun _ => ⟨?_, ?_⟩
  · rw [hstore]
    exact Store.every_of_free (P := Episode.Bounded) emptyStore_slot
  · rw [hctrl]
    nofun

/-! ### What a command answers -/

/-- An event that happens under a condition, and otherwise leaves the state as it is. -/
theorem KeepsCauses.answers_if {c : Prop} [Decidable c] {s t : State} (h : KeepsCauses s t) :
    Answers KeepsCauses s (if c then .next t else .next s) := by
  split
  · exact answers_next h
  · exact answers_next (.refl s)

theorem KeepsCauses.answers_transact {f : State → State} {s : State} (h : KeepsCauses s (f s)) :
    Answers KeepsCauses s (transact f s) := by
  rw [transact_eq]
  split
  · exact answers_next h
  · exact answers_next (.aside rfl rfl)

theorem keepsCauses_dispatch {fieldsValid : Bool} {a : Address} {owner : State → State} {s : State}
    (h : ∀ u, KeepsCauses u (owner u)) : Answers KeepsCauses s (dispatch fieldsValid a owner s) := by
  have hjudged := keepsCauses_setLink s s.link.judged
  unfold dispatch
  dsimp only
  split
  · split
    · exact answers_next hjudged
    · split
      · exact answers_next (hjudged.trans (keepsCauses_takeOwnAddress _)).settle
      · exact answers_next (hjudged.trans (h _)).settle
  · exact answers_next (.refl s)

theorem KeepsCauses.answer {s t : State} (h : KeepsCauses s t) (r : Response) : KeepsCauses s (t.answer r) :=
  h.before rfl rfl

theorem keepsCauses_result (s : State) (r : Result) : KeepsCauses s (s.result r) := .aside rfl rfl

theorem keepsCauses_answer (s : State) (r : Response) : KeepsCauses s (s.answer r) := .aside rfl rfl

/-! ### Commands of lines, units and the group line -/

theorem keepsCauses_execLinePinChange (n : Fin 16) (l : Level) (s : State) :
    Answers KeepsCauses s (execLinePinChange n l s) := by
  unfold execLinePinChange
  split
  · exact answers_next (.refl s)
  · split
    · exact answers_next (keepsCauses_moveLine n l s).settle
    · exact answers_next (.aside rfl rfl)

theorem keepsCauses_execVetoPinChange (l : Level) (s : State) : Answers KeepsCauses s (execVetoPinChange l s) := by
  unfold execVetoPinChange
  split
  · exact answers_next (.refl s)
  · split
    · exact answers_next (keepsCauses_moveVeto l s)
    · exact answers_next (.aside rfl rfl)

theorem keepsCauses_execWindowExpiry (k : Fin 4) (s : State) : Answers KeepsCauses s (execWindowExpiry k s) := by
  unfold execWindowExpiry
  split
  · split
    · exact answers_next (.refl s)
    · exact answers_next (keepsCauses_expireWindow k _ s).settle
  · exact answers_next (.refl s)

/-- The beacon timer stops, and a beacon is requested (R78). -/
theorem keepsCauses_requestsBeacon (s : State) :
    KeepsCauses s (s.setPeers { s.peers with beaconTimer := none }).requestBeacon :=
  (keepsCauses_requestBeacon _).after rfl rfl

theorem keepsCauses_execAttemptStart (s : State) : Answers KeepsCauses s (execAttemptStart s) := by
  unfold execAttemptStart
  split <;> exact answers_next (.aside rfl rfl)

theorem keepsCauses_execAttemptFailure (e : BitError) (s : State) :
    Answers KeepsCauses s (execAttemptFailure e s) := by
  have hbroken := keepsCauses_setLink s (s.link.breakOff e)
  unfold execAttemptFailure
  dsimp only
  split
  · split
    · exact answers_next (hbroken.trans (keepsCauses_enterMute _ _)).settle
    · exact answers_next (hbroken.trans (keepsCauses_failAttempt _)).settle
  · exact answers_next (.refl s)

theorem keepsCauses_execAttemptSuccess (s : State) : Answers KeepsCauses s (execAttemptSuccess s) := by
  unfold execAttemptSuccess
  split
  · exact answers_next (.refl s)
  · exact ((keepsCauses_setLink s _).trans (keepsCauses_reportSuccess _ _)).settle.answers_if

/-! ### Commands of supply, RESET and the control port -/

theorem keepsCauses_execPowerRestart (sa : Address) (s : State) : Answers KeepsCauses s (execPowerRestart sa s) := by
  unfold execPowerRestart
  split <;> exact answers_next (keepsCauses_of_powerOn s rfl rfl)

theorem keepsCauses_execResetLow (s : State) : Answers KeepsCauses s (execResetLow s) := by
  unfold execResetLow
  split <;> exact answers_next (.aside rfl rfl)

theorem keepsCauses_execHardRestart (sa : Address) (s : State) : Answers KeepsCauses s (execHardRestart sa s) := by
  unfold execHardRestart
  split
  · split
    · exact answers_next (keepsCauses_of_powerOn s rfl rfl)
    · exact answers_next (keepsCauses_restarted rfl rfl)
  · exact answers_next (.aside rfl rfl)

/-- A write of R evaluates own BUSY, which may release the register (R119, R124, R157). -/
theorem keepsCauses_applyWrite (i : Item) (x : Settings) (s : State) : KeepsCauses s (applyWrite i x s) := by
  unfold applyWrite
  dsimp only
  split
  · exact (keepsCauses_evaluateBusy _).after rfl rfl
  · exact .aside rfl rfl

theorem keepsCauses_execWriteConfig (item index : Byte) (value : BitVec 56) (s : State) :
    Answers KeepsCauses s (execWriteConfig item index value s) := by
  apply KeepsCauses.answers_transact
  split
  · exact keepsCauses_result s _
  · split
    · exact keepsCauses_result s _
    · split
      · exact keepsCauses_result s _
      · exact (keepsCauses_applyWrite _ _ s).answer _

theorem keepsCauses_execReadConfig (item index : Byte) (s : State) :
    Answers KeepsCauses s (execReadConfig item index s) := by
  apply KeepsCauses.answers_transact
  split
  · exact keepsCauses_result s _
  · exact keepsCauses_answer s _

theorem keepsCauses_execCloseConfig (s : State) : Answers KeepsCauses s (execCloseConfig s) := by
  have hclosed : KeepsCauses s (closeWindow s) := (keepsCauses_enterByAddress _).after rfl rfl
  apply KeepsCauses.answers_transact
  split
  · exact keepsCauses_result s _
  · split
    · exact keepsCauses_answer s _
    · exact hclosed.answer _

theorem keepsCauses_execReadPeer (a : Byte) (s : State) : Answers KeepsCauses s (execReadPeer a s) := by
  apply KeepsCauses.answers_transact
  dsimp only
  split
  · exact keepsCauses_result s _
  · split
    · exact keepsCauses_result s _
    · exact keepsCauses_answer s _

theorem keepsCauses_execReadHistoryNext (n : Byte) (s : State) : Answers KeepsCauses s (execReadHistoryNext n s) := by
  apply KeepsCauses.answers_transact
  split
  · exact .aside rfl rfl
  · exact keepsCauses_result s _

theorem keepsCauses_execSelectEpisode (slot : Byte) (s : State) : Answers KeepsCauses s (execSelectEpisode slot s) := by
  apply KeepsCauses.answers_transact
  exact .of_slots (s.store.select_slots slot) rfl

theorem keepsCauses_execReadRecords (n : Byte) (s : State) : Answers KeepsCauses s (execReadRecords n s) := by
  apply KeepsCauses.answers_transact
  split
  · exact .of_slots (s.store.readRecords_slots _) rfl
  · exact keepsCauses_result s _

/-- A release frees a slot, and may release the register (R124, R146, R147). -/
theorem keepsCauses_releaseSlot (i : Fin 8) (e : Episode) (s : State) : KeepsCauses s (releaseSlot i e s) := by
  have hfreed : KeepsCauses s (s.setStore (s.store.release i e)) :=
    .of_store (fun h => h.of_setSlot (i := i) (x := .free) rfl nofun) rfl
  exact hfreed.trans (keepsCauses_evaluateBusy _)

theorem keepsCauses_execReleaseEpisode (slot : Byte) (s : State) :
    Answers KeepsCauses s (execReleaseEpisode slot s) := by
  apply KeepsCauses.answers_transact
  split
  · exact keepsCauses_result s _
  · split
    · exact keepsCauses_result s _
    · exact keepsCauses_result s _
    · exact ((keepsCauses_releaseSlot _ _ s).answer _).settle

theorem keepsCauses_execSoftwareTrigger (s : State) : Answers KeepsCauses s (execSoftwareTrigger s) := by
  have hrequest := keepsCauses_request .software s.time.group s
  apply KeepsCauses.answers_transact
  split
  · exact keepsCauses_result s _
  · rename_i heq
    rw [heq] at hrequest
    exact (hrequest.answer _).settle

theorem keepsCauses_execCloseEpisode (s : State) : Answers KeepsCauses s (execCloseEpisode s) := by
  apply KeepsCauses.answers_transact
  split
  · exact keepsCauses_result s _
  · split
    · exact ((keepsCauses_closeEpisode .cutByHost s).answer _).settle
    · exact keepsCauses_result s _

theorem keepsCauses_execSetLocalHold (v : Byte) (s : State) : Answers KeepsCauses s (execSetLocalHold v s) := by
  apply KeepsCauses.answers_transact
  split
  · exact ((keepsCauses_setLocalHold _ s).answer _).settle
  · exact keepsCauses_result s _

theorem keepsCauses_execSendGroupCommand (code : Byte) (mask : Mask) (s : State) :
    Answers KeepsCauses s (execSendGroupCommand code mask s) := by
  apply KeepsCauses.answers_transact
  split
  · exact keepsCauses_result s _
  · split
    · exact keepsCauses_result s _
    · split <;> exact .aside rfl rfl

theorem keepsCauses_execRejoin (s : State) : Answers KeepsCauses s (execRejoin s) := by
  have hrejoined : KeepsCauses s (rejoinGroup s) := (keepsCauses_enterRollCall _).after rfl rfl
  apply KeepsCauses.answers_transact
  split
  · exact hrejoined.answer _
  · exact keepsCauses_result s _

theorem keepsCauses_execRestart (sa : Address) (s : State) : Answers KeepsCauses s (execRestart sa s) := by
  apply KeepsCauses.answers_transact
  split
  · exact keepsCauses_result s _
  · exact (keepsCauses_softRestart sa s).before rfl rfl

/-! ### Every step -/

/-- Every command keeps the bounds. -/
theorem keepsCauses_exec (c : Instr) (s : State) : Answers KeepsCauses s (exec c s) := by
  have hheard : ∀ (a : Address) (g : GroupCommand) (mask : Mask) (u : State),
      KeepsCauses u (applyCommand g mask (hearPeer a u)) :=
    fun a g mask u => (keepsCauses_hearPeer a u).trans (keepsCauses_applyCommand g mask _)
  cases c with
  | linePinChange n l => exact keepsCauses_execLinePinChange n l s
  | qualificationTimerExpiry n => exact (keepsCauses_qualifyLine n _ s).settle.answers_if
  | vetoPinChange l => exact keepsCauses_execVetoPinChange l s
  | vetoQualificationExpiry => exact (keepsCauses_qualifyVeto _ s).settle.answers_if
  | windowExpiry k => exact keepsCauses_execWindowExpiry k s
  | postTimeExpiry => exact (keepsCauses_closeEpisode .timed s).settle.answers_if
  | holdLimitExpiry => exact (keepsCauses_expireRegister s).settle.answers_if
  | attemptStart => exact keepsCauses_execAttemptStart s
  | attemptFailure e => exact keepsCauses_execAttemptFailure e s
  | attemptSuccess => exact keepsCauses_execAttemptSuccess s
  | ownAddressMessage => exact ((keepsCauses_setLink s _).trans (keepsCauses_takeOwnAddress _)).settle.answers_if
  | triggerReceived m =>
    exact keepsCauses_dispatch fun u =>
      (keepsCauses_hearPeer m.sender u).trans ((keepsCauses_controllerTrigger m _).trans (keepsCauses_bring _ _))
  | beaconReceived m => exact keepsCauses_dispatch (keepsCauses_handleBeacon m _)
  | clearCountersReceived a mask => exact keepsCauses_dispatch (hheard a _ _)
  | holdReceived a => exact keepsCauses_dispatch (hheard a _ _)
  | resumeReceived a => exact keepsCauses_dispatch (hheard a _ _)
  | silenceTimerExpiry a => exact (keepsCauses_losePeer a s).settle.answers_if
  | beaconTimerExpiry => exact (keepsCauses_requestsBeacon s).answers_if
  | rollCallExpiry => exact (keepsCauses_endRollCall s).settle.answers_if
  | powerRestart sa => exact keepsCauses_execPowerRestart sa s
  | supplyLoss => exact answers_next (keepsCauses_of_powerOn s rfl rfl)
  | resetLow => exact keepsCauses_execResetLow s
  | hardRestart sa => exact keepsCauses_execHardRestart sa s
  | writeConfig item index value => exact keepsCauses_execWriteConfig item index value s
  | readConfig item index => exact keepsCauses_execReadConfig item index s
  | closeConfig => exact keepsCauses_execCloseConfig s
  | readPeer a => exact keepsCauses_execReadPeer a s
  | readHistoryNext n => exact keepsCauses_execReadHistoryNext n s
  | selectEpisode slot => exact keepsCauses_execSelectEpisode slot s
  | readRecords n => exact keepsCauses_execReadRecords n s
  | releaseEpisode slot => exact keepsCauses_execReleaseEpisode slot s
  | softwareTrigger => exact keepsCauses_execSoftwareTrigger s
  | closeEpisode => exact keepsCauses_execCloseEpisode s
  | setLocalHold v => exact keepsCauses_execSetLocalHold v s
  | sendGroupCommand code mask => exact keepsCauses_execSendGroupCommand code mask s
  | rejoin => exact keepsCauses_execRejoin s
  | restart sa => exact keepsCauses_execRestart sa s
  | lineFree | arbitrationLoss | messageAbandon | messageInvalid | groupTimeLimit | startBitReceived =>
    exact KeepsCauses.answers_if (.aside rfl rfl)
  | status | readCounters | readHistory | listEpisodes | readHeader | ackAttention | shortTransaction
  | unknownCommand =>
    apply KeepsCauses.answers_transact
    exact .aside rfl rfl

theorem keepsCauses_step {s t : State} (h : step s = .next t) : KeepsCauses s t := by
  unfold step at h
  split at h
  · cases h
    unfold tick
    split
    · exact .aside rfl rfl
    · exact .refl s
  · exact (keepsCauses_exec _ _ t h).after rfl rfl

/-- Settles O10: the changes that a step makes of the store keep its order, its selection and its episodes' records,
and its events keep the causes. -/
theorem storeContentsKept : Obligations.StoreContentsKept := by
  refine ⟨⟨fun s t hs hstep => ?_, fun s t hs hstep => ?_⟩, fun s t hs hstep => keepsCauses_step hstep hs⟩ <;>
    have hchanges := episodeClosed_changesStore.step hstep
  · obtain ⟨horder, hselection⟩ := hs
    exact ⟨hchanges.keeps StoreChange.orderSound horder, hchanges.keeps StoreChange.selectionSound hselection⟩
  · exact hchanges.keeps StoreChange.ordered hs

end Sys2Proof.Machine
end

section
/-! PROOFS. A write while an episode is open (R24, R138): the hand-over at an empty pool, below the Q-th post-record and
at it. -/

namespace Sys2Proof.Machine

open Sys2Proof.Machine.Claims

/-- The station with a record in the ring and in the open episode, an entry taken from the pool (R18, R138). -/
def recordAppended (b : RecordBody) (o : OpenEpisode) (e : Episode) (s : State) : State :=
  (s.setRing (s.ring.put (stamp b s))).setStore
    { s.store.setSlot o.slot (.filling (e.append (stamp b s))) with freeEntries := s.store.freeEntries - 1 }

/-- A close leaves the other slots (R140). -/
theorem Store.slot_complete_ne (st : Store) {i j : Fin 8} (status : EndStatus) (h : i ≠ j) :
    (st.complete i status).slot j = st.slot j := by
  unfold Store.complete
  split
  · rfl
  · rfl
  · exact st.slot_setSlot_ne _ h

section

variable {s : State} {o : OpenEpisode} {e : Episode} (ho : s.ctrl.current = some o)
  (he : s.store.slot o.slot = .filling e)

include ho he

/-- The hand-over to the open slot (R24, R138). -/
theorem writeOne_of_filling (b : RecordBody) :
    writeOne s b =
      if s.store.freeEntries = 0 then closeCurrent .truncated (s.setRing (s.ring.put (stamp b s)))
      else if s.config.items.postCount ≤ e.header.postCount + 1
        then updateBusy (closeCurrent .full (recordAppended b o e s))
        else updateBusy (recordAppended b o e s) := by
  rw [writeOne, handOver]
  simp only [State.setRing_ctrl, State.setRing_store, ho, he]
  rfl

/-- On an empty pool the record goes to the ring alone, and the episode closes (R138). -/
theorem writeOne_of_empty_pool (hf : s.store.freeEntries = 0) (b : RecordBody) :
    writeOne s b = closed o e .truncated (s.setRing (s.ring.put (stamp b s))) := by
  rw [writeOne_of_filling ho he, if_pos hf]
  exact closeCurrent_eq_closed (s := s.setRing (s.ring.put (stamp b s))) ho he (by decide)

/-- Below the Q-th post-record the episode takes the record and runs on (R138). -/
theorem writeOne_of_room (hf : s.store.freeEntries ≠ 0) (hq : e.header.postCount + 1 < s.config.items.postCount)
    (b : RecordBody) : writeOne s b = updateBusy (recordAppended b o e s) := by
  rw [writeOne_of_filling ho he, if_neg hf, if_neg (Nat.not_le.2 hq)]

/-- At the Q-th post-record the episode takes the record and closes (R138). -/
theorem writeOne_of_last (hf : s.store.freeEntries ≠ 0) (hq : e.header.postCount + 1 = s.config.items.postCount)
    (b : RecordBody) :
    writeOne s b = updateBusy (closed o (e.append (stamp b s)) .full (recordAppended b o e s)) := by
  have hslot : (recordAppended b o e s).store.slot o.slot = .filling (e.append (stamp b s)) :=
    s.store.slot_setSlot_self o.slot _
  rw [writeOne_of_filling ho he, if_neg hf, if_pos hq.ge,
    closeCurrent_eq_closed (s := recordAppended b o e s) ho hslot (by decide)]

/-- A write leaves the slots but the open one (R138). -/
theorem writeOne_slot_ne (b : RecordBody) {j : Fin 8} (hj : j ≠ o.slot) :
    (writeOne s b).store.slot j = s.store.slot j := by
  have happend : (recordAppended b o e s).store.slot j = s.store.slot j := s.store.slot_setSlot_ne _ hj.symm
  have hclose : ∀ (u : State) (x : EndStatus), u.ctrl.current = some o →
      (closeCurrent x u).store.slot j = u.store.slot j := fun u x hu => by
    rw [closeCurrent_store, hu]
    exact u.store.slot_complete_ne x hj.symm
  rw [writeOne_of_filling ho he]
  split
  · exact hclose (s.setRing (s.ring.put (stamp b s))) .truncated ho
  · split <;> rw [updateBusy_store]
    · exact (hclose (recordAppended b o e s) .full ho).trans happend
    · exact happend

end

theorem closed_slot_self (o : OpenEpisode) (e : Episode) (status : EndStatus) (s : State) :
    (closed o e status s).store.slot o.slot =
      .complete { e with header := { e.header with endStatus := some status } } :=
  s.store.slot_setSlot_self o.slot _

/-- Settles O25: the three outcomes of the hand-over, own BUSY evaluated after an append. -/
theorem writeReachesTheOpenSlot : Obligations.WriteReachesTheOpenSlot := by
  intro b s o e ho he
  refine ⟨fun j hj => writeOne_slot_ne ho he b hj, fun hf => ?_, fun hf hq => ?_, fun hf hq => ?_⟩
  · rw [writeOne_of_empty_pool ho he hf]
    exact ⟨closed_slot_self _ _ _ _, hf, rfl, rfl⟩
  · rw [writeOne_of_room ho he hf hq]
    refine ⟨?_, ?_, ?_, busySound_updateBusy _⟩
    · rw [updateBusy_store]; exact s.store.slot_setSlot_self o.slot _
    · rw [updateBusy_store]; rfl
    · rw [updateBusy_current]; exact ho
  · rw [writeOne_of_last ho he hf hq]
    refine ⟨?_, ?_, ?_, ?_, busySound_updateBusy _⟩
    · rw [updateBusy_store]; exact closed_slot_self _ _ _ _
    · rw [updateBusy_store]; rfl
    · rw [updateBusy_current]; rfl
    · rw [updateBusy_port]; rfl

end Sys2Proof.Machine
end

section
/-! PROOFS. LIST EPISODES, SELECT EPISODE, READ HEADER and READ RECORDS (R142 to R145). -/

namespace Sys2Proof.Machine

open Sys2Proof.Machine.Claims

/-! ### LIST EPISODES (R142) -/

theorem exec_listEpisodes {s : State} (h : Listens s) : exec .listEpisodes s = .next (s.answer s.store.list) := by
  show execListEpisodes s = _
  rw [execListEpisodes, transact_of_listens h]

/-- A slot is listed under its own index, if it is not FREE. -/
theorem Store.listing_slot {st : Store} {i : Fin 8} (h : st.slot i ≠ .free) :
    (st.listing i).map Listing.slot = some i := by
  unfold Store.listing
  split
  · exact absurd ‹_› h
  · rfl
  · rfl

/-- The slots listed are those of the opening-order list (R141, R142). -/
theorem Store.OrderSound.listed {st : Store} (h : st.OrderSound) :
    (st.order.filterMap st.listing).map Listing.slot = st.order := by
  obtain ⟨-, hmem⟩ := h
  have hlisted : ∀ i ∈ st.order, (st.listing i).map Listing.slot = some i :=
    fun i hi => Store.listing_slot ((hmem i).1 hi)
  rw [List.map_filterMap, List.filterMap_congr hlisted, List.filterMap_some]

/-- What an entry of the listing says of its slot (R142). -/
theorem Store.listing_eq_some {st : Store} {i : Fin 8} {l : Listing} (h : st.listing i = some l) :
    ∃ e, (st.slot l.slot = .filling e ∧ l.complete = false ∧ l.endStatus = none ∨
        st.slot l.slot = .complete e ∧ l.complete = true ∧ l.endStatus = e.header.endStatus) ∧
      l.number = e.header.number ∧ l.role = e.header.role ∧ l.held = e.records.length := by
  unfold Store.listing at h
  split at h
  · cases h
  · rename_i e he
    cases h
    exact ⟨e, .inl ⟨he, rfl, rfl⟩, rfl, rfl, rfl⟩
  · rename_i e he
    cases h
    exact ⟨e, .inr ⟨he, rfl, rfl⟩, rfl, rfl, rfl⟩

/-! ### SELECT EPISODE (R143) -/

theorem slotIndex_of_range {b : Byte} (h : 7 < b.toNat) : slotIndex b = none := dif_neg (by omega)

theorem exec_selectEpisode (b : Byte) {s : State} (h : Listens s) :
    exec (.selectEpisode b) s = .next ((s.setStore (s.store.select b).1).result (s.store.select b).2) := by
  show execSelectEpisode b s = _
  rw [execSelectEpisode, transact_of_listens h]

section

variable {st : Store} {i : Fin 8}

theorem Store.select_of_free (h : st.slot i = .free) : st.select (BitVec.ofNat 8 i.val) = (st, .notFound) := by
  simp only [Store.select, slotIndex_ofNat, h]

theorem Store.select_of_filling {e : Episode} (h : st.slot i = .filling e) :
    st.select (BitVec.ofNat 8 i.val) = (st, .notComplete) := by
  simp only [Store.select, slotIndex_ofNat, h]

/-- A COMPLETE slot is selected at its first record (R143). -/
theorem Store.select_of_complete {e : Episode} (h : st.slot i = .complete e) :
    st.select (BitVec.ofNat 8 i.val) = ({ st with selection := some (i, 0) }, .ok) := by
  simp only [Store.select, slotIndex_ofNat, h]

end

theorem Store.select_of_range {st : Store} {b : Byte} (h : 7 < b.toNat) : st.select b = (st, .range) := by
  rw [Store.select, slotIndex_of_range h]

/-! ### READ HEADER and READ RECORDS (R144, R145) -/

theorem exec_readHeader {s : State} (h : Listens s) : exec .readHeader s = .next (s.answer s.store.readHeader) := by
  show execReadHeader s = _
  rw [execReadHeader, transact_of_listens h]

theorem exec_readRecords {n : Byte} {s : State} (h : Listens s) (h1 : 1 ≤ n.toNat) (h16 : n.toNat ≤ 16) :
    exec (.readRecords n) s =
      .next ((s.setStore (s.store.readRecords n.toNat).1).answer (s.store.readRecords n.toNat).2) := by
  show execReadRecords n s = _
  rw [execReadRecords, transact_of_listens h, if_pos ((countInRange_iff n).2 ⟨h1, h16⟩)]

theorem exec_readRecords_of_range {n : Byte} {s : State} (h : Listens s) (hn : n.toNat = 0 ∨ 16 < n.toNat) :
    exec (.readRecords n) s = .next (s.answer { result := .range, body := .empty }) := by
  have hrange : ¬ countInRange n = true := by
    rw [countInRange_iff]
    omega
  show execReadRecords n s = _
  rw [execReadRecords, transact_of_listens h, if_neg hrange]
  rfl

theorem Store.selected_of_none {st : Store} (h : st.selection = none) : st.selected = none := by
  rw [Store.selected, h]

theorem Store.selected_of_complete {st : Store} {i : Fin 8} {pos : Nat} {e : Episode} (h : st.selection = some (i, pos))
    (he : st.slot i = .complete e) : st.selected = some (i, pos, e) := by
  simp [Store.selected, h, he, Slot.episode]

/-- With no selection nothing is read out (R144, R145). -/
theorem Store.read_of_none {st : Store} (h : st.selection = none) (n : Nat) :
    st.readHeader = { result := .noSelection, body := .empty } ∧
      st.readRecords n = (st, { result := .noSelection, body := .empty }) := by
  simp [Store.readHeader, Store.readRecords, Store.selected_of_none h]

section

variable {st : Store} {i : Fin 8} {pos : Nat} {e : Episode} (h : st.selection = some (i, pos))
  (he : st.slot i = .complete e)

include h he

theorem Store.readHeader_of_complete :
    st.readHeader = { result := .ok, body := .header e.header e.records.length } := by
  rw [Store.readHeader, Store.selected_of_complete h he]

/-- Past the last record there is no more to read (R145). -/
theorem Store.readRecords_of_end (n : Nat) (hpos : e.records.length ≤ pos) :
    st.readRecords n = (st, { result := .atEnd, body := .empty }) := by
  simp only [Store.readRecords, Store.selected_of_complete h he, if_pos hpos]

/-- The records from the cursor on, as many as asked for and present (R145). -/
theorem Store.readRecords_of_unread (n : Nat) (hpos : pos < e.records.length) :
    st.readRecords n = ({ st with selection := some (i, pos + min n (e.records.length - pos)) },
      { result := .ok
        body := .slotRecords pos (e.records.length - (pos + min n (e.records.length - pos)))
          ((e.records.drop pos).take (min n (e.records.length - pos))) }) := by
  have htake : (e.records.drop pos).take (min n (e.records.length - pos)) = (e.records.drop pos).take n := by
    rw [← List.length_drop, ← List.take_eq_take_min]
  simp only [Store.readRecords, Store.selected_of_complete h he, if_neg (Nat.not_le.2 hpos), htake, List.length_take,
    List.length_drop]

end

/-- Settles O56: the listing entry by entry, and each row of the checks and of the readout. -/
theorem episodesAreListedAndReadOut : Obligations.EpisodesAreListedAndReadOut := by
  refine ⟨fun s h => ⟨⟨s.store.order.filterMap s.store.listing, ?_, Store.OrderSound.listed, fun l hl => ?_⟩,
    fun b hb => ?_, fun i hi => ?_, fun i e hi => ?_, fun i e hi => ?_⟩, fun n s h => ⟨exec_readRecords_of_range h,
    fun hsel => ⟨?_, fun h1 h16 => ?_⟩, fun i pos e hsel he => ⟨?_, fun h1 h16 hpos => ?_, fun h1 h16 hpos => ?_⟩⟩⟩
  · rw [exec_listEpisodes h, freeCount_eq]
    rfl
  · obtain ⟨i, -, hi⟩ := List.mem_filterMap.1 hl
    exact Store.listing_eq_some hi
  · rw [exec_selectEpisode b h, Store.select_of_range hb]
    rfl
  · rw [exec_selectEpisode _ h, Store.select_of_free hi]
    rfl
  · rw [exec_selectEpisode _ h, Store.select_of_filling hi]
    rfl
  · rw [exec_selectEpisode _ h, Store.select_of_complete hi]
    rfl
  · rw [exec_readHeader h, (Store.read_of_none hsel 0).1]
  · rw [exec_readRecords h h1 h16, (Store.read_of_none hsel _).2]
    rfl
  · rw [exec_readHeader h, Store.readHeader_of_complete hsel he]
  · rw [exec_readRecords h h1 h16, Store.readRecords_of_end hsel he _ hpos]
    rfl
  · rw [exec_readRecords h h1 h16, Store.readRecords_of_unread hsel he _ hpos]
    rfl

end Sys2Proof.Machine
end

section
/-! PROOFS. RELEASE EPISODE, and own BUSY by the counts (R119, R146, R147). -/

namespace Sys2Proof.Machine

open Sys2Proof.Machine.Claims

theorem Store.freeSlots_eq_zero_iff (st : Store) : st.freeSlots = 0 ↔ ∀ i, st.slot i ≠ .free := by
  simp only [Store.freeSlots, List.countP_eq_zero, Vector.mem_toList_iff, Vector.mem_iff_getElem, Slot.isFree_iff]
  exact ⟨fun h i => h _ ⟨i.val, i.isLt, rfl⟩, fun h x ⟨i, hi, hx⟩ => hx ▸ h ⟨i, hi⟩⟩

/-- Own BUSY by the counts (R119). -/
theorem busyByCounts_iff (s : State) :
    s.busyByCounts = true ↔ (∀ i, s.store.slot i ≠ .free) ∨ s.store.freeEntries < s.config.items.reserve := by
  rw [State.busyByCounts, Bool.or_eq_true, beq_iff_eq, decide_eq_true_eq, Store.freeSlots_eq_zero_iff]

theorem exec_releaseEpisode_of_range {b : Byte} {s : State} (h : Listens s) (hb : 7 < b.toNat) :
    exec (.releaseEpisode b) s = .next (s.answer { result := .range, body := .empty }) := by
  show execReleaseEpisode b s = _
  rw [execReleaseEpisode, transact_of_listens h, slotIndex_of_range hb]
  rfl

theorem exec_releaseEpisode_of_free {i : Fin 8} {s : State} (h : Listens s) (hi : s.store.slot i = .free) :
    exec (.releaseEpisode (BitVec.ofNat 8 i.val)) s = .next (s.answer { result := .notFound, body := .empty }) := by
  show execReleaseEpisode _ s = _
  rw [execReleaseEpisode, transact_of_listens h, slotIndex_ofNat]
  simp only [hi]
  rfl

theorem exec_releaseEpisode_of_filling {i : Fin 8} {e : Episode} {s : State} (h : Listens s)
    (hi : s.store.slot i = .filling e) :
    exec (.releaseEpisode (BitVec.ofNat 8 i.val)) s =
      .next (s.answer { result := .notComplete, body := .empty }) := by
  show execReleaseEpisode _ s = _
  rw [execReleaseEpisode, transact_of_listens h, slotIndex_ofNat]
  simp only [hi]
  rfl

/-- With the register EMPTY a release ends with the evaluation of own BUSY (R146, R147). -/
theorem releaseSlot_of_empty {s : State} (h : s.ctrl.register = none) (i : Fin 8) (e : Episode) :
    releaseSlot i e s = freed i e s := by
  have hempty : (updateBusy (s.setStore (s.store.release i e))).ctrl.register = none :=
    (updateBusy_register _).trans h
  rw [releaseSlot, evaluateBusy, examineAfter_of_empty _ _ hempty, updateBusy_release]

/-- Settles O57: the counts, the checks of a release, and what it frees. -/
theorem releaseReturnsTheSlot : Obligations.ReleaseReturnsTheSlot := by
  refine ⟨busyByCounts_iff, fun s h => ⟨fun b hb => exec_releaseEpisode_of_range h hb,
    fun i hi => exec_releaseEpisode_of_free h hi, fun i e hi => exec_releaseEpisode_of_filling h hi,
    fun i e hoffers hregister hi => ?_⟩⟩
  rw [exec_releaseEpisode h hi, releaseSlot_of_empty hregister, settle_of_no_offers]
  · rfl
  · exact hoffers

end Sys2Proof.Machine
end

section
/-! PROOFS. Window, units and transmit list agree with the station state (R32, R59, R65, R155): what capture, requests,
messages, holds and units keep of the agreements. -/

namespace Sys2Proof.Machine

/-! ### The agreements -/

/-- The station state, and all that agrees with it: the window, the units and the transceiver. -/
structure StationView where
  mode : Mode
  window : Window
  units : Vector TriggerUnit 4
  link : Link

def State.view (s : State) : StationView :=
  { mode := s.station.mode, window := s.config.window, units := s.units, link := s.link }

/-- Window, units and transmit list agree with the station state. -/
structure StatesSound (s : State) : Prop where
  window : WindowSound s
  disarmed : DisarmedSound s
  silent : SilentSound s
  bounded : LinkBounded s

theorem StatesSound.of_view {s t : State} (hs : StatesSound s) (h : t.view = s.view) : StatesSound t := by
  have hmode : t.station.mode = s.station.mode := congrArg StationView.mode h
  have hwindow : t.config.window = s.config.window := congrArg StationView.window h
  have hunits : t.units = s.units := congrArg StationView.units h
  have hlink : t.link = s.link := congrArg StationView.link h
  constructor
  · simpa only [WindowSound, hmode, hwindow] using hs.window
  · simpa only [DisarmedSound, hmode, hunits] using hs.disarmed
  · simpa only [SilentSound, hmode, hlink] using hs.silent
  · simpa only [LinkBounded, hmode, hlink] using hs.bounded

/-- Outside CONFIG the window is closed (R155). -/
theorem StatesSound.closed {s : State} (hs : StatesSound s) (hm : s.station.mode ≠ .config) :
    s.config.window = .closed := by
  cases hw : s.config.window with
  | closed => rfl
  | isOpen => exact absurd (hs.window.1 hw) hm

/-- A station with an attempt in progress is one that sends (R59, R65). -/
theorem StatesSound.transmits {s : State} (hs : StatesSound s) {a : Attempt} (ha : s.link.attempt = some a) :
    s.station.mode.transmits = true := by
  by_contra hmute
  obtain ⟨-, hnone⟩ := hs.silent (Bool.eq_false_iff.2 hmute)
  rw [ha] at hnone
  cases hnone

/-- A station with a unit armed is neither in CONFIG nor in ROLLCALL (R32). -/
theorem StatesSound.of_armed {s : State} (hs : StatesSound s) {k : Fin 4} {u : ArmedUnit}
    (hk : s.units[k] = .armed u) : ¬ (s.station.mode = .config ∨ s.station.mode = .rollCall) := by
  intro hm
  rw [hs.disarmed hm] at hk
  simp [disarmedUnits] at hk

/-! ### What keeps the agreements -/

/-- An event from `s` to `t` keeps the agreements. -/
def KeepsStates (s t : State) : Prop := StatesSound s → StatesSound t

namespace KeepsStates

theorem trans {s t u : State} (h : KeepsStates s t) (k : KeepsStates t u) : KeepsStates s u := k ∘ h

/-- An event that touches neither the station state nor what agrees with it. -/
theorem aside {s t : State} (h : t.view = s.view) : KeepsStates s t := fun hs => hs.of_view h

theorem refl (s : State) : KeepsStates s s := id

/-- An event that first touches nothing that the agreements rest on. -/
theorem after {s u t : State} (k : KeepsStates u t) (h : u.view = s.view) : KeepsStates s t := (aside h).trans k

/-- An event that at last touches nothing that the agreements rest on. -/
theorem before {s u t : State} (k : KeepsStates s u) (h : t.view = u.view) : KeepsStates s t := k.trans (aside h)

end KeepsStates

/-! ### The transceiver and the units -/

/-- A change of the transceiver that lists no GROUP COMMAND and counts no failure, and in a station that does not send
nothing at all. -/
theorem keepsStates_setLink {s : State} {l : Link} (hc : l.list.commands.length ≤ s.link.list.commands.length)
    (hf : l.failures ≤ s.link.failures)
    (hsilent : s.station.mode.transmits = false → s.link.list = emptyList → s.link.attempt = none →
      l.list = emptyList ∧ l.attempt = none) : KeepsStates s (s.setLink l) := by
  intro hs
  obtain ⟨hcommands, hlimit, hsends⟩ := hs.bounded
  refine ⟨hs.window, hs.disarmed, fun hm => ?_, hc.trans hcommands, hf.trans hlimit, fun hm => hf.trans_lt (hsends hm)⟩
  obtain ⟨hlist, hattempt⟩ := hs.silent hm
  exact hsilent hm hlist hattempt

/-- A change of the receive assembly alone. -/
theorem keepsStates_setLink_same {s : State} {l : Link} (hl : l.list = s.link.list)
    (ha : l.attempt = s.link.attempt) (hf : l.failures = s.link.failures) : KeepsStates s (s.setLink l) :=
  keepsStates_setLink (by rw [hl]) hf.le fun _ hlist hnone => ⟨hl.trans hlist, ha.trans hnone⟩

/-- A change of the transceiver in a station that sends. -/
theorem keepsStates_setLink_sending {s : State} {l : Link} (hm : s.station.mode.transmits = true)
    (hc : l.list.commands.length ≤ s.link.list.commands.length) (hf : l.failures ≤ s.link.failures) :
    KeepsStates s (s.setLink l) :=
  keepsStates_setLink hc hf fun hmute => absurd (hmute.symm.trans hm) Bool.false_ne_true

/-- A withdrawal lists nothing (R64). -/
theorem keepsStates_withdraw (s : State) : KeepsStates s s.withdrawTrigger := by
  refine keepsStates_setLink le_rfl le_rfl fun _ hlist hnone => ⟨?_, ?_⟩
  · exact congrArg (fun l : TransmitList => { l with trigger := false }) hlist
  · rw [Link.withdraw, hnone]

/-- A beacon is requested in a station that sends, and in no other (R78). -/
theorem keepsStates_requestBeacon (s : State) : KeepsStates s s.requestBeacon := by
  unfold State.requestBeacon
  split
  · exact keepsStates_setLink_sending ‹_› le_rfl le_rfl
  · exact .refl s

/-- An armed unit set anew (R34). -/
theorem keepsStates_setUnit {s : State} {k : Fin 4} {u : ArmedUnit} (hk : s.units[k] = .armed u) (x : TriggerUnit) :
    KeepsStates s (s.setUnit k x) := fun hs =>
  ⟨hs.window, fun hm => absurd hm (hs.of_armed hk), hs.silent, hs.bounded⟩

/-! ### Closes, records and openings (R24, R101, R114, R138) -/

theorem keepsStates_updateBusy (s : State) : KeepsStates s (updateBusy s) := by
  unfold updateBusy
  dsimp only
  split
  · exact .refl s
  · refine KeepsStates.after (u := s.setCtrl { s.ctrl with ownBusy := s.busyByCounts }) ?_ rfl
    exact (keepsStates_requestBeacon _).before rfl

theorem keepsStates_closeCurrent (e : EndStatus) (s : State) : KeepsStates s (closeCurrent e s) := by
  unfold closeCurrent
  split
  · exact .refl s
  · refine ((keepsStates_withdraw _).after rfl).before ?_
    cases e <;> rfl

theorem keepsStates_writeOne (s : State) (b : RecordBody) : KeepsStates s (writeOne s b) := by
  rcases handOver_cases (stamp b s) (s.setRing (s.ring.put (stamp b s))) with
    h | ⟨o, e, _, _, ⟨_, h⟩ | ⟨_, s1, rfl, ⟨_, h⟩ | ⟨_, h⟩⟩⟩ <;> rw [writeOne, h]
  · exact .aside rfl
  · exact (keepsStates_closeCurrent _ _).after rfl
  · exact ((keepsStates_closeCurrent _ _).trans (keepsStates_updateBusy _)).after rfl
  · exact (keepsStates_updateBusy _).after rfl

theorem keepsStates_writeAll (bs : List RecordBody) (s : State) : KeepsStates s (writeAll bs s) := by
  induction bs generalizing s with
  | nil => exact .refl s
  | cons b bs ih => exact (keepsStates_writeOne s b).trans (ih _)

theorem keepsStates_suppressAll (f : SuppressedFlag) (cs : List OwnCause) (s : State) :
    KeepsStates s (suppressAll f cs s) := by
  cases cs with
  | nil => exact .refl s
  | cons c cs => exact (keepsStates_writeAll _ s).before rfl

theorem keepsStates_openIn (o : Opening) (i : Fin 8) (s : State) : KeepsStates s (openIn o i s) := by
  rw [openIn_eq_updateBusy, clearCounters_eq]
  exact (keepsStates_updateBusy _).after rfl

theorem keepsStates_riseOpen (s : State) : KeepsStates s s.riseOpen := by
  rw [riseOpen_eq]
  exact .aside rfl

/-- A TRIGGER is listed where the station sends (R98). -/
theorem keepsStates_originate (c : OwnCause × Time) (cs : List (OwnCause × Time)) (ov : Bool) {s : State}
    (hm : s.station.mode = .active) : KeepsStates s (originate c cs ov s).1 := by
  rcases originate_cases c cs ov s with ⟨f, h⟩ | ⟨i, s2, _, _, _, h2, h⟩ <;> rw [h]
  · exact keepsStates_suppressAll f ((c :: cs).map Prod.fst) s
  · have hopened : KeepsStates s s2 := by
      rw [h2]
      exact ((keepsStates_openIn _ i _).trans (keepsStates_riseOpen _)).after rfl
    have hmode : s2.station.mode = .active := by
      rw [h2, State.riseOpen_station, (captureFrame_openIn _ _ _).station]
      exact hm
    exact hopened.trans (keepsStates_setLink_sending (by rw [hmode]; rfl) le_rfl le_rfl)

/-! ### The register and its examination (R124 to R126) -/

theorem keepsStates_examineRegister (s : State) : KeepsStates s (examineRegister s) := by
  rcases examineRegister_cases s with h | ⟨r, _, hm, _, _, ⟨_, h⟩ | ⟨c, cs, _, h⟩⟩ <;> rw [h]
  · exact .refl s
  · exact .aside rfl
  · exact (keepsStates_originate (s := s.setCtrl { s.ctrl with register := none }) c cs _ hm).after rfl

theorem KeepsStates.examineAfter {s t : State} (h : KeepsStates s t) (before : State) :
    KeepsStates s (examineAfter before t) := by
  rcases examineAfter_cases before t with heq | heq <;> rw [heq]
  · exact h
  · exact h.trans (keepsStates_examineRegister t)

theorem keepsStates_write (bs : List RecordBody) (s : State) : KeepsStates s (write bs s) :=
  (keepsStates_writeAll bs s).examineAfter s

theorem keepsStates_suppress (f : SuppressedFlag) (cs : List OwnCause) (s : State) :
    KeepsStates s (suppress f cs s) := (keepsStates_suppressAll f cs s).examineAfter s

theorem keepsStates_closeEpisode (e : EndStatus) (s : State) : KeepsStates s (closeEpisode e s) :=
  (keepsStates_closeCurrent e s).examineAfter s

theorem keepsStates_evaluateBusy (s : State) : KeepsStates s (evaluateBusy s) :=
  (keepsStates_updateBusy s).examineAfter s

theorem keepsStates_evaluateGroupBusy (s : State) : KeepsStates s (evaluateGroupBusy s) := by
  apply KeepsStates.examineAfter
  exact .aside rfl

theorem keepsStates_discardRegister (s : State) : KeepsStates s (discardRegister s) := by
  unfold discardRegister
  split
  · exact .refl s
  · exact (keepsStates_suppress _ _ _).after rfl

theorem keepsStates_expireRegister (s : State) : KeepsStates s (expireRegister s) := by
  unfold expireRegister
  split
  · exact .refl s
  · exact (keepsStates_suppress _ _ _).after rfl

/-! ### Trigger requests (R97) -/

theorem keepsStates_mapHeader (s : State) (f : Header → Header) : KeepsStates s (s.mapHeader f) := by
  obtain ⟨st, hst⟩ := mapHeader_eq_setStore s f
  rw [hst]
  exact .aside rfl

theorem keepsStates_holdRequest (c : OwnCause) (x : Time) (s : State) : KeepsStates s (holdRequest c x s).1 := by
  unfold holdRequest
  split
  · exact keepsStates_suppress _ _ s
  · split
    · exact .aside rfl
    · split <;> exact .aside rfl

theorem keepsStates_openLocal (c : OwnCause) (x : Time) (s : State) : KeepsStates s (openLocal c x s).1 := by
  unfold openLocal
  split
  · exact keepsStates_suppress _ _ s
  · split
    · exact keepsStates_suppress _ _ s
    · exact (keepsStates_openIn _ _ s).trans (keepsStates_riseOpen _)

/-- A station that is neither in CONFIG nor in ROLLCALL and not MUTE is ACTIVE. -/
theorem Mode.eq_active {m : Mode} (h : ¬ (m = .config ∨ m = .rollCall)) (hmute : ¬ m.isMute = true) : m = .active := by
  cases m with
  | active => rfl
  | config => exact absurd (.inl rfl) h
  | rollCall => exact absurd (.inr rfl) h
  | mute r => exact absurd rfl hmute

theorem keepsStates_requestNoEpisode (c : OwnCause) (x : Time) {s : State}
    (hm : ¬ (s.station.mode = .config ∨ s.station.mode = .rollCall)) :
    KeepsStates s (requestNoEpisode c x s).1 := by
  unfold requestNoEpisode
  split
  · exact keepsStates_openLocal c x s
  · split
    · exact keepsStates_holdRequest c x s
    · exact keepsStates_originate _ _ _ (Mode.eq_active hm ‹_›)

theorem keepsStates_request (c : OwnCause) (x : Time) (s : State) : KeepsStates s (request c x s).1 := by
  unfold request
  split
  · exact .refl s
  · split
    · exact keepsStates_suppress _ _ s
    · split
      · exact keepsStates_mapHeader s (fun h => h.addCause (.own c x))
      · exact keepsStates_requestNoEpisode c x ‹_›

/-! ### Received TRIGGERs, beacon numbers and claims -/

theorem keepsStates_raiseHighest (x : Word32) (s : State) : KeepsStates s (raiseHighest x s) := by
  rw [raiseHighest_eq]
  exact .aside rfl

theorem keepsStates_writeGap (n : Nat) (s : State) : KeepsStates s (writeGap n s) := by
  unfold writeGap
  split
  · exact .refl s
  · exact (keepsStates_writeOne _ _).after rfl

theorem keepsStates_mapCurrent (s : State) (f : OpenEpisode → OpenEpisode) : KeepsStates s (s.mapCurrent f) :=
  .aside rfl

theorem keepsStates_bring (s : State) (o : Offer) : KeepsStates s (s.bring o) := .aside rfl

theorem keepsStates_joinEpisode (m : TriggerMessage) (s : State) : KeepsStates s (joinEpisode m s) := by
  have hcause := keepsStates_mapHeader s (fun h => h.addCause (remoteEntry m))
  unfold joinEpisode
  dsimp only
  split
  · exact hcause
  · split
    · exact hcause.trans ((keepsStates_withdraw _).trans
        ((keepsStates_mapHeader _ _).trans (keepsStates_mapCurrent _ _)))
    · exact hcause.trans (keepsStates_mapHeader _ _)
    · exact hcause

theorem keepsStates_triggerActions (c : TriggerCase) (m : TriggerMessage) (s : State) :
    KeepsStates s (triggerActions c m s) := by
  cases c with
  | join => exact keepsStates_joinEpisode m s
  | renumber => exact (keepsStates_mapHeader s _).trans ((keepsStates_withdraw _).trans (keepsStates_mapCurrent _ _))
  | cut => exact keepsStates_closeCurrent .cutByNext s
  | notCaptured | stale | follow | late => exact .refl s

theorem keepsStates_openFollower (m : TriggerMessage) (s : State) : KeepsStates s (openFollower m s) := by
  unfold openFollower
  refine KeepsStates.after ?_ (u := s.setCtrl { s.ctrl with register := none }) rfl
  rcases openLowest_cases (followerOpening m s.ctrl.register) (s.setCtrl { s.ctrl with register := none }) with
    h | ⟨i, _, _, h⟩ <;> rw [h]
  · exact .refl _
  · exact keepsStates_openIn _ i _

theorem keepsStates_followTrigger (c : TriggerCase) (m : TriggerMessage) (s : State) :
    KeepsStates s (followTrigger c m s) := by
  unfold followTrigger
  split
  · exact keepsStates_openFollower m s
  · exact (keepsStates_openFollower m s).trans (keepsStates_riseOpen _)

theorem keepsStates_handleTrigger (c : TriggerCase) (m : TriggerMessage) (s : State) :
    KeepsStates s (handleTrigger c m s) := by
  have hrecords : ∀ n b, KeepsStates s (writeOne (writeGap n (raiseHighest m.number (triggerActions c m s))) b) :=
    fun n b => (keepsStates_triggerActions c m s).trans ((keepsStates_raiseHighest _ _).trans
      ((keepsStates_writeGap n _).trans (keepsStates_writeOne _ b)))
  unfold handleTrigger
  dsimp only
  split
  · exact (hrecords _ _).trans (keepsStates_followTrigger c m _)
  · exact hrecords _ _

theorem keepsStates_controllerTrigger (m : TriggerMessage) (s : State) : KeepsStates s (controllerTrigger m s) :=
  (keepsStates_handleTrigger _ m s).examineAfter s

theorem keepsStates_renumberByBeacon (x : Word32) (s : State) : KeepsStates s (renumberByBeacon x s) := by
  have hraised := keepsStates_raiseHighest x s
  unfold renumberByBeacon
  split
  · split
    · split
      · split
        · exact hraised.trans ((keepsStates_withdraw _).trans
            ((keepsStates_mapHeader _ _).trans (keepsStates_mapCurrent _ _)))
        · exact (keepsStates_raiseHighest _ s).trans (keepsStates_mapHeader _ _)
      · exact hraised
    · exact hraised
  · exact hraised

theorem keepsStates_beaconNumber (x : Word32) (s : State) : KeepsStates s (beaconNumber x s) :=
  ((keepsStates_renumberByBeacon x s).trans (keepsStates_writeGap _ _)).examineAfter s

theorem keepsStates_announceClaim (s : State) : KeepsStates s (announceClaim s) := by
  unfold announceClaim
  split
  · exact .refl s
  · split
    · exact (keepsStates_mapHeader s _).trans (keepsStates_mapCurrent _ _)
    · exact .refl s

/-! ### Holds (section 7.4) -/

theorem keepsStates_holdChanged (v : Bool) (s : State) : KeepsStates s (holdChanged v s) := by
  have hflag : ∀ u : State, KeepsStates u (u.raise .hold).requestBeacon := fun _ =>
    (keepsStates_requestBeacon _).after rfl
  cases v with
  | false => exact hflag s
  | true => exact (keepsStates_discardRegister s).trans (hflag _)

theorem keepsStates_setLocalHold (v : Bool) (s : State) : KeepsStates s (setLocalHold v s) := by
  unfold setLocalHold
  split
  · exact .refl s
  · exact (keepsStates_holdChanged v _).after rfl

theorem keepsStates_setGroupHold (v : Bool) (s : State) : KeepsStates s (setGroupHold v s) := by
  unfold setGroupHold
  split
  · exact .refl s
  · exact (keepsStates_holdChanged v _).after rfl

theorem keepsStates_handOnHoldMark (s : State) : KeepsStates s (handOnHoldMark s) := by
  unfold handOnHoldMark
  dsimp only
  split
  · exact (keepsStates_setGroupHold true _).after rfl
  · exact .aside rfl

/-! ### Units (R34, R45, R46) -/

theorem keepsStates_fire (k : Fin 4) (s : State) : KeepsStates s (fire k s) :=
  (keepsStates_write _ s).trans (keepsStates_request _ _ _)

theorem keepsStates_settleUnit {k : Fin 4} {s : State} {u : ArmedUnit} (hk : s.units[k] = .armed u)
    (r : ArmedUnit × Bool) : KeepsStates s (settleUnit k r s) := by
  unfold settleUnit
  dsimp only
  split
  · split
    · exact (keepsStates_setUnit hk _).trans (keepsStates_fire k _)
    · exact keepsStates_setUnit hk _
  · exact keepsStates_setUnit hk _

theorem keepsStates_unitTakes (o : Offer) (s : State) (k : Fin 4) : KeepsStates s (unitTakes o s k) := by
  unfold unitTakes
  split
  · exact .refl s
  · exact keepsStates_settleUnit ‹_› _

theorem keepsStates_takeOfferIn (order : List (Fin 4)) (o : Offer) (s : State) :
    KeepsStates s (takeOfferIn order o s) := by
  unfold takeOfferIn
  induction order generalizing s with
  | nil => exact .refl s
  | cons k order ih => exact (keepsStates_unitTakes o s k).trans (ih _)

theorem keepsStates_takeOffers (n : Nat) (s : State) : KeepsStates s (takeOffers n s) := by
  induction n generalizing s with
  | zero => exact .refl s
  | succ n ih =>
    unfold takeOffers
    split
    · exact .refl s
    · exact ((keepsStates_takeOfferIn _ _ _).trans (ih _)).after rfl

theorem keepsStates_expireWindow {k : Fin 4} {u : ArmedUnit} {s : State} (hk : s.units[k] = .armed u) :
    KeepsStates s (expireWindow k u s) := by
  unfold expireWindow
  dsimp only
  split <;> exact keepsStates_settleUnit hk _

end Sys2Proof.Machine
end

section
/-! PROOFS. Supply, RESET and the restarts that leave the station in CONFIG (R5, R9, R16, R29, R71, R72, R118, R149, R151,
R152, R161, R169). -/

namespace Sys2Proof.Machine

open Sys2Proof.Machine.Claims

/-! ### Values that restarts share -/

theorem clearedCounters_get (n : Fin 16) : clearedCounters[n] = 0#32 := by simp [clearedCounters]

theorem disarmedUnits_get (k : Fin 4) : disarmedUnits[k] = .disabled := by simp [disarmedUnits]

/-- Every entry of the peer table is ABSENT after a restart (R72). -/
theorem peer_of_restarted {t : State} {cause : RestartCause} (h : t.peers = restartedPeers cause) (a : Address) :
    t.peer a = absentPeer := by
  simp [State.peer, h, restartedPeers]

/-- No peer is PRESENT after a restart, so none is BUSY (R72, R76). -/
theorem peersBusy_of_restarted {t : State} {cause : RestartCause} (h : t.peers = restartedPeers cause) :
    t.peersBusy = false := by
  rw [State.peersBusy, h]
  exact (by decide : (restartedPeers .power).table.toList.any (fun e => e.state == .present && e.busy) = false)

/-- The lines start from the levels at their pins (R5). -/
theorem line_of_restarted {s t : State} {now : Nat} (h : t.lines = restartedLines s.lines now) (n : Fin 16) :
    t.line n = { pin := (s.line n).pin, level := (s.line n).pin, phase := .steady } := by
  rw [State.line, h]
  exact vecOf_get 16 _ n

/-- VETO starts INACTIVE, and is timed where its pin is HIGH (R9). -/
theorem veto_of_restarted {s t : State} {now : Nat} (h : t.lines = restartedLines s.lines now) :
    t.lines.veto.pin = s.lines.veto.pin ∧ t.lines.veto.level = .low ∧
      (s.lines.veto.pin = .low → t.lines.veto.phase = .steady) ∧
      (s.lines.veto.pin = .high → t.lines.veto.phase = .pending now 10) := by
  rw [h]
  exact ⟨rfl, rfl, fun hlow => by simp [restartedLines, restartedVeto, hlow],
    fun hhigh => by simp [restartedLines, restartedVeto, hhigh]⟩

/-- A station left in CONFIG on the defaults (section 9.2.2, R29, R32, R71). -/
theorem onDefaults_of_restarted {t : State} {cause : RestartCause} (hmode : t.station.mode = .config)
    (hconfig : t.config = defaultConfiguration) (hring : t.ring = emptyRing) (hunits : t.units = disarmedUnits)
    (hlink : t.link = restartedLink) (hpeers : t.peers = restartedPeers cause) : OnDefaults t := by
  refine ⟨hmode, ?_, ?_, ?_, ?_, fun k => ?_, ?_, ?_, ?_, ?_⟩
  · rw [hconfig]; rfl
  · rw [hconfig]; rfl
  · rw [hring]; rfl
  · rw [hring]; rfl
  · rw [hunits]; exact disarmedUnits_get k
  · rw [hlink]; rfl
  · rw [hlink]; rfl
  · rw [hlink]; rfl
  · rw [hpeers]; rfl

/-! ### The POWER restart (R151) -/

/-- The lines after a POWER restart are those of section 1.1.1 and section 1.2.1 at time 0 (R5, R9). -/
theorem powerRestart_lines (sa : Address) (s : State) : (powerRestart sa s).lines = restartedLines s.lines 0 := by
  have hev : vecOf 16 (fun n => restartedLine s.lines.pins[n]) = vecOf 16 (fun n => restartedLine s.lines.ev[n].pin) := by
    congr 1
    funext n
    rw [Lines.pins, vecOf_get]
  exact congrArg (fun ev => ({ ev := ev, veto := restartedVeto s.lines.veto.pin 0 } : Lines)) hev

/-- What a POWER restart sets, whatever the levels at the pins (R148, R151, R169). -/
theorem powerOn_powerRestart (sa : Address) (s : State) : PowerOn (powerRestart sa s) := by
  have hbusy : (powerRestart sa s).ctrl.ownBusy = (powerRestart sa s).busyByCounts :=
    (by decide : false = State.reset.busyByCounts)
  have hfree : ∀ i, (powerRestart sa s).store.slot i = .free := fun i => by
    simp [Store.slot, powerRestart, State.afterPower, emptyStore]
  refine ⟨⟨clearedCounters_get, rfl, peer_of_restarted (cause := .power) rfl, rfl, rfl, rfl, rfl, rfl, rfl, rfl, rfl, rfl,
    rfl, rfl, rfl, rfl, hbusy, rfl, rfl, (by decide : State.reset.flagged .restarted = true)⟩, onDefaults_of_restarted (cause := .power) rfl rfl rfl rfl rfl rfl, rfl,
    rfl, rfl, rfl, rfl, rfl, hfree, rfl, rfl, rfl, rfl, rfl⟩

theorem poweredOn_powerRestart (sa : Address) (s : State) : PoweredOn sa s (powerRestart sa s) := by
  obtain ⟨hpin, hlevel, hlow, hhigh⟩ := veto_of_restarted (powerRestart_lines sa s)
  exact ⟨powerOn_powerRestart sa s, rfl, rfl, line_of_restarted (powerRestart_lines sa s), hpin, hlevel, hlow, hhigh,
    rfl, rfl, rfl, (by decide : State.reset.attnPin = .low), rfl, rfl⟩

/-- The state right after reset is that of a POWER restart with every pin LOW (log 4). -/
theorem reset_eq_powerRestart : State.reset = powerRestart 0#5 State.reset := by decide

/-- Settles O5: the state right after reset is that of a POWER restart. -/
theorem resetHoldsPowerOnValues : Obligations.ResetHoldsPowerOnValues := by
  refine ⟨?_, rfl⟩
  rw [reset_eq_powerRestart]
  exact powerOn_powerRestart 0#5 State.reset

theorem emptyStore_numberAt (i : Fin 8) : emptyStore.numberAt i = none := by
  rw [Store.numberAt, emptyStore_slot]
  rfl

/-- No slot of the store holds an episode after a POWER restart (R148). -/
theorem emptyStore_episode {i : Fin 8} {e : Episode} : (emptyStore.slot i).episode ≠ some e := by
  rw [emptyStore_slot]
  exact nofun

/-- Settles O13: the ring, the store and the lists are empty, and own BUSY agrees with the counts. -/
theorem invariantsHoldAtReset : Obligations.InvariantsHoldAtReset := by
  have hring : emptyRing.Sound := Ring.sound_empty
  have hordered : emptyStore.OrderSound := ⟨List.nodup_nil, fun i =>
    ⟨fun h => absurd h List.not_mem_nil, fun h => absurd (emptyStore_slot i) h⟩⟩
  have hopen : OpenSlotSound State.reset := fun i =>
    ⟨fun ⟨e, he⟩ => (Slot.noConfusion ((emptyStore_slot i).symm.trans he)), nofun⟩
  have hnumbers : NumbersSound State.reset :=
    ⟨fun i j n hi => (nomatch (emptyStore_numberAt i).symm.trans hi),
      fun i n hi => (nomatch (emptyStore_numberAt i).symm.trans hi), nofun⟩
  exact ⟨hring.1, hring.2, Ring.timed_empty _, nofun, by unfold Store.Balanced; decide, hordered, trivial,
    fun i e he => absurd he emptyStore_episode, hopen, hnumbers, ⟨fun i e he => absurd he emptyStore_episode, nofun⟩,
    ⟨fun _ => rfl, fun _ => rfl⟩, fun _ => rfl, rfl, ⟨fun _ => ⟨rfl, rfl⟩, by decide, by decide, nofun⟩, fun _ => rfl,
    by unfold BusySound; decide, flagsOfPresent_restartedPeers (c := .power) rfl, by decide⟩

/-! ### A station held, or without supply (R151, R152, R171, R172) -/

theorem running_of_supply_off {s : State} (h : s.power.supply = false) : s.running = false := by
  simp [State.running, h]

theorem running_of_reset_low {s : State} (h : s.power.resetPin = .low) : s.running = false := by
  simp [State.running, h]

/-- A station that takes no event drives neither ATTN, OPEN nor GTX, and gives the code of NONE (R50, R161, R171,
R172). -/
theorem outputs_of_not_running {s : State} (h : s.running = false) :
    s.attnPin = .high ∧ s.openPin = .low ∧ (∀ k, s.gtx k = true) ∧ ∀ k, s.sdoByte k = 1#8 := by
  refine ⟨by simp [State.attnPin, h], by simp [State.openPin, h], fun k => ?_, fun k => ?_⟩
  · unfold State.gtx
    split
    · rfl
    · simp [h]
  · rw [State.sdoByte, h]
    rfl

/-- The pins keep their levels in a station that holds no state (R5, R151). -/
theorem blankStation_pins (p : Power) (sa : Address) (s : State) :
    (∀ n, ((blankStation p sa s).line n).pin = (s.line n).pin) ∧
      (blankStation p sa s).lines.veto.pin = s.lines.veto.pin := by
  have hlines : (blankStation p sa s).lines = restartedLines s.lines 0 := powerRestart_lines sa s
  exact ⟨fun n => by rw [line_of_restarted hlines], (veto_of_restarted hlines).1⟩

theorem exec_powerRestart_of_high {sa : Address} {s : State} (h : s.power.resetPin = .high) :
    exec (.powerRestart sa) s = .next (powerRestart sa s) := by
  show execPowerRestart sa s = _
  simp only [execPowerRestart, h]

theorem exec_powerRestart_of_low {sa : Address} {s : State} (h : s.power.resetPin = .low) :
    exec (.powerRestart sa) s =
      .next (blankStation { supply := true, resetPin := .low, powerOnRelease := true } sa s) := by
  show execPowerRestart sa s = _
  simp only [execPowerRestart, h]

theorem exec_hardRestart_of_powerOn {sa : Address} {s : State} (hs : s.power.supply = true)
    (hp : s.power.powerOnRelease = true) : exec (.hardRestart sa) s = .next (powerRestart sa s) := by
  show execHardRestart sa s = _
  simp [execHardRestart, hs, hp]

theorem exec_hardRestart {sa : Address} {s : State} (hs : s.power.supply = true)
    (hp : s.power.powerOnRelease = false) : exec (.hardRestart sa) s = .next (hardRestart sa s) := by
  show execHardRestart sa s = _
  simp [execHardRestart, hs, hp]

/-- Settles O14: the restart at the supply, the station held by RESET, and the restart at the release. -/
theorem powerRestartSetsEverything : Obligations.PowerRestartSetsEverything := by
  refine ⟨fun sa s h => ⟨_, exec_powerRestart_of_high h, poweredOn_powerRestart sa s⟩, fun sa s h => ?_,
    fun sa s hs hp => ⟨_, exec_hardRestart_of_powerOn hs hp, poweredOn_powerRestart sa s⟩⟩
  have hheld := running_of_reset_low
    (s := blankStation { supply := true, resetPin := .low, powerOnRelease := true } sa s) rfl
  obtain ⟨hattn, hopen, hgtx, hsdo⟩ := outputs_of_not_running hheld
  obtain ⟨hev, hveto⟩ := blankStation_pins { supply := true, resetPin := .low, powerOnRelease := true } sa s
  exact ⟨_, exec_powerRestart_of_low h, rfl, hheld, hev, hveto, hattn, hopen, hgtx, hsdo, rfl, rfl, rfl⟩

/-- A transaction in progress as RESET falls is one to be discarded (R161). -/
theorem bus_cut_eq (s : State) : s.port.bus.cut = if s.csPin = .low then .cutOff else .idle := by
  unfold State.csPin
  cases s.port.bus <;> rfl

/-- Settles O15: a station without supply holds no state, and RESET held low stops transceiver and port. -/
theorem supplyLossAndResetHoldTheStation : Obligations.SupplyLossAndResetHoldTheStation := by
  refine ⟨fun s => ?_, fun s hr => ?_⟩
  · have hoff := running_of_supply_off
      (s := blankStation { supply := false, resetPin := s.power.resetPin, powerOnRelease := false } s.station.saPins s) rfl
    obtain ⟨hattn, hopen, -, -⟩ := outputs_of_not_running hoff
    obtain ⟨hev, hveto⟩ := blankStation_pins
      { supply := false, resetPin := s.power.resetPin, powerOnRelease := false } s.station.saPins s
    exact ⟨_, rfl, rfl, rfl, hoff, hev, hveto, hattn, hopen, fun _ => rfl, rfl⟩
  · intro t
    have hheld : t.running = false := running_of_reset_low (s := t) rfl
    obtain ⟨hattn, hopen, hgtx, hsdo⟩ := outputs_of_not_running hheld
    refine ⟨?_, hheld, hattn, hopen, hgtx, hsdo⟩
    show execResetLow s = _
    rw [execResetLow, if_pos hr, bus_cut_eq]
    rfl

/-! ### What HARD and SOFT restarts do alike (R118, R149, R162, R169) -/

/-- The store after a restart that keeps it: the open episode closed, and nothing selected (R118, R149). -/
def keptStore (s : State) : Store :=
  { (closeCurrent .cutByRestart s).store with selection := none }

/-- The blocks that HARD and SOFT restarts set, the close taken first. -/
theorem restartBlocks_close (cause : RestartCause) (sa : Address) (s : State) :
    restartBlocks cause sa (closeCurrent .cutByRestart s) = { s with
      station := { s.station with saPins := sa, address := sa }
      counters := clearedCounters
      ring := emptyRing
      units := disarmedUnits
      link := restartedLink
      peers := restartedPeers cause
      ctrl := { s.ctrl with current := none, localHold := false, groupHold := false, register := none }
      store := keptStore s
      port := { s.port with response := noResponse, attention := flag s .restarted }
      offers := [] } := by
  unfold keptStore closeCurrent
  cases s.ctrl.current <;> rfl

/-- The FILLING slot is the open episode's, so that its close leaves none (R95, R118). -/
theorem keptStore_slot {s : State} (h : OpenSlotSound s) (i : Fin 8) :
    (keptStore s).slot i = cutByRestart (s.store.slot i) := by
  have hclosed : (keptStore s).slot i = (closeCurrent .cutByRestart s).store.slot i := rfl
  have hother : s.ctrl.current.map OpenEpisode.slot ≠ some i → cutByRestart (s.store.slot i) = s.store.slot i := by
    intro hne
    cases hslot : s.store.slot i with
    | free => rfl
    | complete e => rfl
    | filling e => exact absurd ((h i).1 ⟨e, hslot⟩) hne
  rw [hclosed, closeCurrent_store]
  split
  · rename_i hc
    exact (hother (by simp [hc])).symm
  · rename_i o hc
    by_cases hi : o.slot = i
    · obtain ⟨e, he⟩ := (h i).2 (by simp [hc, hi])
      rw [hi, Store.complete_of_filling he, Store.slot_setSlot_self, he]
      rfl
    · rw [hother (by simp [hc, hi])]
      unfold Store.complete
      split
      · rfl
      · rfl
      · exact Store.slot_setSlot_ne _ _ hi

theorem keptStore_freeEntries (s : State) : (keptStore s).freeEntries = s.store.freeEntries := by
  show (closeCurrent .cutByRestart s).store.freeEntries = _
  rw [closeCurrent_store]
  split
  · rfl
  · exact Store.complete_freeEntries _ _ _

theorem keptStore_order (s : State) : (keptStore s).order = s.store.order := by
  show (closeCurrent .cutByRestart s).store.order = _
  rw [closeCurrent_store]
  split
  · rfl
  · exact Store.complete_order _ _ _

/-- Time, numbers and the store but for its FILLING slot are kept (R87, R93, R118, R149). -/
theorem kept_of_store {s t : State} (h : OpenSlotSound s) (htime : t.time = s.time)
    (hhighest : t.ctrl.highest = s.ctrl.highest) (hgap : t.ctrl.gapMark = s.ctrl.gapMark) (hstore : t.store = keptStore s)
    (hrises : t.openRises = s.openRises) (hchoice : t.choice = s.choice) (hpending : t.pending = s.pending)
    (hoffers : t.offers = []) : Kept s t := by
  refine ⟨htime, hhighest, hgap, fun i => ?_, ?_, ?_, hrises, hchoice, hpending, hoffers⟩
  · rw [hstore]; exact keptStore_slot h i
  · rw [hstore]; exact keptStore_freeEntries s
  · rw [hstore]; exact keptStore_order s

/-- RESTARTED is set after a HARD and a SOFT restart, whatever stood before (R169). -/
theorem flagged_flag (s : State) (f : Attention) : (flag s f).getLsbD f.index = true := by
  cases f <;> simp [flag, Attention.bit, Attention.index]

/-! ### The HARD restart (R152) -/

/-- The station at a HARD restart, before own BUSY and group busy are given their values. -/
def hardBlocks (sa : Address) (s : State) : State :=
  { s with
    power := { s.power with resetPin := .high }
    station := { mode := .config, saPins := sa, address := sa }
    config := defaultConfiguration
    lines := restartedLines s.lines s.now
    counters := clearedCounters
    ring := emptyRing
    units := disarmedUnits
    link := restartedLink
    peers := restartedPeers .hard
    ctrl := { s.ctrl with current := none, localHold := false, groupHold := false, register := none }
    store := keptStore s
    port := { s.port with response := noResponse, attention := flag s .restarted }
    offers := [] }

theorem hardRestart_eq (sa : Address) (s : State) : hardRestart sa s = restartBusy (hardBlocks sa s) := by
  rw [hardRestart, restartBlocks_close]
  rfl

/-- After a restart group busy is own BUSY, which the counts kept give (R119, R121). -/
theorem restartBusy_busy {u : State} {cause : RestartCause} (h : u.peers = restartedPeers cause) :
    (restartBusy u).ctrl.groupBusy = (restartBusy u).ctrl.ownBusy ∧
      (restartBusy u).ctrl.ownBusy = (restartBusy u).busyByCounts := by
  refine ⟨?_, rfl⟩
  show (u.busyByCounts || u.peersBusy) = u.busyByCounts
  rw [peersBusy_of_restarted h, Bool.or_false]

theorem restarted_hardRestart (sa : Address) (s : State) : Restarted .hard (hardRestart sa s) := by
  rw [hardRestart_eq]
  obtain ⟨hgroup, hown⟩ := restartBusy_busy (u := hardBlocks sa s) (cause := .hard) rfl
  exact ⟨clearedCounters_get, rfl, peer_of_restarted (cause := .hard) rfl, rfl, rfl, rfl, rfl, rfl, rfl, rfl, rfl, rfl, rfl,
    rfl, rfl, hgroup, hown, rfl, rfl, flagged_flag s .restarted⟩

/-- Settles O16: the blocks that the restart sets, and those it keeps. -/
theorem hardRestartKeepsTheStore : Obligations.HardRestartKeepsTheStore := by
  intro sa s hs hp hopen
  refine ⟨_, exec_hardRestart hs hp, restarted_hardRestart sa s, ?_⟩
  rw [hardRestart_eq]
  have hrunning : (restartBusy (hardBlocks sa s)).running = true := by
    show (s.power.supply && Level.high == .high) = true
    rw [hs]; rfl
  have hlines : (restartBusy (hardBlocks sa s)).lines = restartedLines s.lines s.now := rfl
  obtain ⟨hpin, hlevel, hlow, hhigh⟩ := veto_of_restarted hlines
  exact ⟨onDefaults_of_restarted (cause := .hard) rfl rfl rfl rfl rfl rfl,
    kept_of_store hopen rfl rfl rfl rfl rfl rfl rfl rfl, rfl, hrunning, rfl, rfl, line_of_restarted hlines, hpin, hlevel,
    hlow, hhigh, rfl⟩

end Sys2Proof.Machine
end

section
/-! PROOFS. The ways out of CONFIG: a SOFT restart and a successful CLOSE CONFIG enter ROLLCALL or MUTE by the address (R79,
R84, R153, R158, R159). -/

namespace Sys2Proof.Machine

open Sys2Proof.Machine.Claims

/-! ### The entry by the address (R79, R84) -/

/-- From CONFIG no hold mark is handed on, and the units are armed (R31, R82, R84). -/
theorem enterMute_of_config {r : MuteReason} {s : State} (h : s.station.mode = .config) :
    enterMute r s = claimOvertakenByMute (armUnits (muteEntry r s)) := by
  simp only [enterMute, h, reduceCtorEq, if_false]
  rfl

theorem entersMute_of_config {r : MuteReason} {s : State} (h : s.station.mode = .config) :
    EntersMute r s (enterMute r s) := by
  rw [enterMute_of_config h]
  exact (EntersMute.muteEntry r s).armUnits.claimOvertakenByMute

/-- With no episode open there is no claim to overtake (R112). -/
theorem claimOvertakenByMute_of_no_episode {s : State} (h : s.ctrl.current = none) : claimOvertakenByMute s = s :=
  claimOvertakenByMute_of_other fun o ho => by rw [h] at ho; cases ho

/-- An address makes the station enter ROLLCALL (R79). -/
theorem enterByAddress_of_address {s : State} (ha : s.station.address ≠ 0#5) : enterByAddress s = enterRollCall s :=
  if_neg ha

/-- A station without an address becomes MUTE with its units armed (R31, R84). -/
theorem enterByAddress_of_no_address {s : State} (ha : s.station.address = 0#5) (hm : s.station.mode = .config)
    (hc : s.ctrl.current = none) :
    enterByAddress s =
      (muteEntry .noAddress s).setUnits (vecOf 4 (fun k => armedAs s.config.items.units[k] s.counters)) := by
  rw [enterByAddress, if_pos ha, enterMute_of_config hm, claimOvertakenByMute_of_no_episode, armUnits_eq]
  · rfl
  · exact hc

/-! ### The SOFT restart (R153) -/

/-- The ring after a SOFT restart: new, with VETO-ON first where VETO is ACTIVE (R9, R29). -/
def softRing (s : State) : Ring :=
  if s.lines.veto.level = .high
    then { records := [{ seq := 0#16, time := s.time.group, body := .vetoOn }], nextSeq := 1#16, cursor := .notStarted }
    else { records := [], nextSeq := 0#16, cursor := .notStarted }

/-- The station at a SOFT restart, before own BUSY and group busy are given their values: as in CONFIG, but for its
configuration, its lines and its bit rate. -/
def softBlocks (sa : Address) (s : State) : State :=
  { s with
    station := { mode := .config, saPins := sa, address := sa }
    counters := clearedCounters
    ring := emptyRing
    units := disarmedUnits
    link := { restartedLink with rx := .waitFree, rate := s.link.rate }
    peers := restartedPeers .soft
    ctrl := { s.ctrl with current := none, localHold := false, groupHold := false, register := none }
    store := keptStore s
    port := { s.port with response := noResponse, attention := flag s .restarted }
    offers := [] }

/-- The state from which a SOFT restart enters a station state by the address. -/
def softened (sa : Address) (s : State) : State := (restartBusy (softBlocks sa s)).setRing (softRing s)

theorem softRestart_eq (sa : Address) (s : State) : softRestart sa s = enterByAddress (softened sa s) := by
  have hveto : vetoOnAfterRestart (restartBusy (softBlocks sa s)) = softened sa s := by
    unfold vetoOnAfterRestart softened softRing
    split
    · rename_i hhigh
      rw [writeOne_of_no_episode _ _ rfl, if_pos (show s.lines.veto.level = .high from hhigh)]
      rfl
    · rename_i hlow
      rw [if_neg (show ¬ s.lines.veto.level = .high from hlow)]
      rfl
  rw [softRestart, restartBlocks_close, ← hveto]
  rfl

/-- The station that a SOFT restart leaves in this station state, with these units, BEACON place, roll-call timer and
attention flags. -/
def softEntered (sa : Address) (s : State) (m : Mode) (units : Vector TriggerUnit 4) (beacon : BeaconEntry)
    (timer : Option Nat) (attention : BitVec 6) : State :=
  { softened sa s with
    station := { mode := m, saPins := sa, address := sa }
    units := units
    link := { (softened sa s).link with list := { emptyList with beacon := beacon } }
    peers := { restartedPeers .soft with rollCallTimer := timer }
    port := { (softened sa s).port with attention := attention } }

/-- With an address, a SOFT restart ends in ROLLCALL (R79, R153). -/
theorem softRestart_of_address {sa : Address} (s : State) (ha : sa ≠ 0#5) :
    softRestart sa s = softEntered sa s .rollCall disarmedUnits .listed (some s.now) (flag s .restarted) := by
  rw [softRestart_eq, enterByAddress_of_address ha, enterRollCall_eq]
  rfl

/-- Without one, it ends in MUTE (R84, R153). -/
theorem softRestart_of_no_address {sa : Address} (s : State) (ha : sa = 0#5) :
    softRestart sa s = softEntered sa s (.mute .noAddress)
      (vecOf 4 (fun k => armedAs s.config.items.units[k] clearedCounters)) .absent none
      (flag s .restarted ||| Attention.muted.bit) := by
  rw [softRestart_eq, enterByAddress_of_no_address ha rfl rfl]
  rfl

theorem softRing_cursor (s : State) : (softRing s).cursor = .notStarted := by
  unfold softRing
  split <;> rfl

/-- Every restarted block has its value, whatever station state is entered (R72, R118, R153, R162, R169). -/
theorem restarted_softEntered (sa : Address) (s : State) (m : Mode) (units : Vector TriggerUnit 4) (beacon : BeaconEntry)
    (timer : Option Nat) {attention : BitVec 6} (ha : attention.getLsbD Attention.restarted.index = true) :
    Restarted .soft (softEntered sa s m units beacon timer attention).endTransaction := by
  obtain ⟨hgroup, hown⟩ := restartBusy_busy (u := softBlocks sa s) (cause := .soft) rfl
  exact ⟨clearedCounters_get, softRing_cursor s,
    peer_of_restarted (t := restartBusy (softBlocks sa s)) (cause := .soft) rfl,
    rfl, rfl, rfl, rfl, rfl, rfl, rfl, rfl, rfl, rfl, rfl, rfl, hgroup, hown, rfl, rfl, ha⟩

theorem exec_restart {sa : Address} {s : State} (h : Listens s) (hm : s.station.mode ≠ .config) :
    exec (.restart sa) s = .next (softRestart sa s).endTransaction := by
  show execRestart sa s = _
  rw [execRestart, transact_of_listens h, if_neg hm]

/-- Settles O17: the blocks a SOFT restart sets and keeps, the state it enters, and its refusal in CONFIG. -/
theorem softRestartKeepsTheConfiguration : Obligations.SoftRestartKeepsTheConfiguration := by
  refine ⟨fun sa s h hm hopen => ?_, fun sa s h hm => ?_⟩
  · have hflag := flagged_flag s .restarted
    rw [exec_restart h hm]
    by_cases ha : sa = 0#5
    · have hmuted : (flag s .restarted ||| Attention.muted.bit).getLsbD Attention.restarted.index = true := by
        rw [BitVec.getLsbD_or, hflag, Bool.true_or]
      rw [softRestart_of_no_address s ha]
      exact ⟨_, rfl, restarted_softEntered _ _ _ _ _ _ hmuted, kept_of_store hopen rfl rfl rfl rfl rfl rfl rfl rfl, rfl,
        rfl, rfl, rfl, rfl, rfl, rfl, rfl, rfl, fun hne => absurd ha hne, fun _ => ⟨rfl, rfl, rfl, rfl, vecOf_get 4 _⟩⟩
    · rw [softRestart_of_address s ha]
      exact ⟨_, rfl, restarted_softEntered _ _ _ _ _ _ hflag, kept_of_store hopen rfl rfl rfl rfl rfl rfl rfl rfl, rfl,
        rfl, rfl, rfl, rfl, rfl, rfl, rfl, rfl, fun _ => ⟨rfl, rfl, rfl, rfl, rfl⟩, fun heq => absurd heq ha⟩
  · show execRestart sa s = _
    rw [execRestart, transact_of_listens h, if_pos hm]
    rfl

/-! ### The checks of CLOSE CONFIG (R158) -/

/-- Checks (a) and (b) of a unit (R158). -/
def UnitSettings.Passes (u : UnitSettings) : Prop :=
  (u.enable = true → u.condA ≠ .empty) ∧ (u.combinator ≠ .any → u.condB ≠ .empty)

theorem UnitSettings.failing_of_condA {u : UnitSettings} (k : Fin 4) (h : ¬ (u.enable = true → u.condA ≠ .empty)) :
    u.failing k = some (.condA k) := by
  simp only [Classical.not_imp, not_not] at h
  exact if_pos h

theorem UnitSettings.failing_of_condB {u : UnitSettings} (k : Fin 4) (ha : u.enable = true → u.condA ≠ .empty)
    (hb : ¬ (u.combinator ≠ .any → u.condB ≠ .empty)) : u.failing k = some (.condB k) := by
  simp only [Classical.not_imp, not_not] at hb
  exact (if_neg fun h => ha h.1 h.2).trans (if_pos hb)

theorem UnitSettings.failing_of_passes {u : UnitSettings} (k : Fin 4) (h : u.Passes) : u.failing k = none :=
  (if_neg fun ha => h.1 ha.1 ha.2).trans (if_neg fun hb => h.2 hb.1 hb.2)

theorem UnitSettings.failing_eq_none_iff (u : UnitSettings) (k : Fin 4) : u.failing k = none ↔ u.Passes := by
  refine ⟨fun h => ?_, failing_of_passes k⟩
  by_contra hfails
  by_cases ha : u.enable = true → u.condA ≠ .empty
  · exact nomatch h.symm.trans (failing_of_condB k ha fun hb => hfails ⟨ha, hb⟩)
  · exact nomatch h.symm.trans (failing_of_condA k ha)

/-- The checks name the item of the first unit that fails one (R158). -/
theorem Settings.failing_of_unit {x : Settings} {k : Fin 4} {i : Item} (hlow : ∀ j, j < k → x.units[j].Passes)
    (hk : x.units[k].failing k = some i) : x.failing = some i := by
  have hfirst : (List.finRange 4).findSome? (fun j => x.units[j].failing j) = some i := by
    refine List.findSome?_eq_some_iff.2 ⟨(List.finRange 4).take k, k, (List.finRange 4).drop (k + 1), ?_, hk, ?_⟩
    · simpa using (List.take_append_drop k.val (List.finRange 4)).symm.trans
        (congrArg _ (List.drop_eq_getElem_cons (by simp)))
    · intro j hj
      obtain ⟨n, hn, rfl⟩ := List.mem_take_iff_getElem.1 hj
      have hlt : n < k.val := lt_of_lt_of_le hn (min_le_left _ _)
      exact UnitSettings.failing_of_passes _ (hlow _ (by rw [List.getElem_finRange]; exact hlt))
  simp only [Settings.failing, hfirst]

/-- With the units' checks passed, Q and then R are checked (R158). -/
theorem Settings.failing_of_units {x : Settings} (h : ∀ k : Fin 4, x.units[k].Passes) :
    x.failing = if 1024 < x.preCount + 1 + x.postCount then some .postCount
      else if x.reserve < 1024 - (x.preCount + 1) then none else some .reserve := by
  have hnone : (List.finRange 4).findSome? (fun k => x.units[k].failing k) = none :=
    List.findSome?_eq_none_iff.2 fun k _ => UnitSettings.failing_of_passes k (h k)
  simp only [Settings.failing, hnone]

theorem Settings.failing_eq_none_iff (x : Settings) :
    x.failing = none ↔ (∀ k : Fin 4, x.units[k].Passes) ∧ x.preCount + 1 + x.postCount ≤ 1024 ∧
      x.reserve < 1024 - (x.preCount + 1) := by
  by_cases h : ∀ k : Fin 4, x.units[k].Passes
  · simp only [failing_of_units h, h, implies_true, true_and]
    split
    · simp; omega
    · split
      · simp; omega
      · simp; omega
  · refine iff_of_false (fun hnone => h fun k => ?_) fun hall => h hall.1
    have hunits : (List.finRange 4).findSome? (fun k => x.units[k].failing k) = none := by
      unfold Settings.failing at hnone
      split at hnone
      · cases hnone
      · assumption
    exact (UnitSettings.failing_eq_none_iff _ k).1 (List.findSome?_eq_none_iff.1 hunits k (List.mem_finRange k))

/-! ### CLOSE CONFIG -/

theorem exec_closeConfig_of_closed {s : State} (h : Listens s) (hw : s.config.window = .closed) :
    exec .closeConfig s = .next (s.answer { result := .closed, body := .empty }) := by
  show execCloseConfig s = _
  rw [execCloseConfig, transact_of_listens h, if_pos hw]
  rfl

theorem exec_closeConfig_of_failing {s : State} {i : Item} (h : Listens s) (hw : s.config.window = .isOpen)
    (hi : s.config.items.failing = some i) :
    exec .closeConfig s = .next (s.answer { result := .invalid, body := .invalid i }) := by
  show execCloseConfig s = _
  rw [execCloseConfig, transact_of_listens h]
  simp [hw, hi]

theorem exec_closeConfig {s : State} (h : Listens s) (hw : s.config.window = .isOpen)
    (hi : s.config.items.failing = none) :
    exec .closeConfig s = .next ((closeWindow s).answer { result := .ok, body := .empty }) := by
  show execCloseConfig s = _
  rw [execCloseConfig, transact_of_listens h]
  simp only [hw, hi, reduceCtorEq, if_false]
  rfl

/-- Settles O55: the first check that fails, or the window closed. -/
theorem closeConfigChecksAndCloses : Obligations.CloseConfigChecksAndCloses := by
  refine fun s h => ⟨exec_closeConfig_of_closed h, s.config.items.failing_eq_none_iff, fun hw => ⟨fun k hlow ha => ?_,
    fun k hlow ha hb => ?_, fun hunits hq => ?_, fun hunits hq hr => ?_⟩, fun hw hi hc => ⟨fun ha => ?_, fun ha hm => ?_⟩⟩
  · exact exec_closeConfig_of_failing h hw (Settings.failing_of_unit hlow (UnitSettings.failing_of_condA k ha))
  · exact exec_closeConfig_of_failing h hw (Settings.failing_of_unit hlow (UnitSettings.failing_of_condB k ha hb))
  · exact exec_closeConfig_of_failing h hw ((Settings.failing_of_units hunits).trans (if_pos hq))
  · exact exec_closeConfig_of_failing h hw ((Settings.failing_of_units hunits).trans
      ((if_neg hq.not_gt).trans (if_neg hr.not_gt)))
  · rw [exec_closeConfig h hw hi, closeWindow, enterByAddress_of_address, enterRollCall_eq]
    · rfl
    · exact ha
  · rw [exec_closeConfig h hw hi, closeWindow, enterByAddress_of_no_address]
    · rfl
    · exact ha
    · exact hm
    · exact hc

end Sys2Proof.Machine
end

section
/-! PROOFS. Every command keeps window, units and transmit list in agreement with the station state, and ends with no offer
left to take (R32, R34, R48, R59, R65, R155). -/

namespace Sys2Proof.Machine

open Sys2Proof.Machine.Claims

/-! ### Event lines, counters and VETO -/

theorem keepsStates_qualifyLine (n : Fin 16) (l : Level) (s : State) : KeepsStates s (qualifyLine n l s) := by
  unfold qualifyLine
  dsimp only
  split
  · exact .aside rfl
  · exact (keepsStates_write _ _).after rfl

theorem keepsStates_moveLine (n : Fin 16) (l : Level) (s : State) : KeepsStates s (moveLine n l s) := by
  unfold moveLine
  dsimp only
  split
  · split
    · exact .aside rfl
    · split
      · exact keepsStates_qualifyLine n l s
      · exact .aside rfl
  · split <;> exact .aside rfl

theorem keepsStates_qualifyVeto (l : Level) (s : State) : KeepsStates s (qualifyVeto l s) :=
  (keepsStates_write _ _).after rfl

theorem keepsStates_clearCounters (mask : Mask) (s : State) : KeepsStates s (clearCounters mask s) := by
  rw [clearCounters_eq]
  exact .aside rfl

/-! ### Peers heard and lost (R73 to R77) -/

theorem keepsStates_hearPeer (a : Address) (s : State) : KeepsStates s (hearPeer a s) := by
  unfold hearPeer
  dsimp only
  split
  · exact .aside rfl
  · exact .aside rfl
  · exact (keepsStates_write _ _).after rfl

theorem keepsStates_noteBeacon (before : PeerEntry) (m : BeaconMessage) (s : State) :
    KeepsStates s (noteBeacon before m s) := by
  unfold noteBeacon
  dsimp only
  split
  · exact .aside rfl
  · split
    · exact .aside rfl
    · exact (keepsStates_write _ _).after rfl

theorem keepsStates_stepTime (a : Address) (l x : Time) (s : State) : KeepsStates s (stepTime a l x s) := by
  unfold stepTime
  dsimp only
  split
  · exact .refl s
  · exact ((keepsStates_mapHeader _ _).trans (keepsStates_write _ _)).after rfl

theorem keepsStates_handleBeacon (m : BeaconMessage) (l : Time) (s : State) : KeepsStates s (handleBeacon m l s) := by
  have hnoted := (keepsStates_hearPeer m.sender s).trans (keepsStates_noteBeacon (s.peer m.sender) m _)
  have hnumber := (hnoted.trans (keepsStates_stepTime m.sender l m.time _)).trans (keepsStates_beaconNumber m.highest _)
  rw [handleBeacon, markHold_eq]
  exact (hnumber.trans (keepsStates_evaluateGroupBusy _)).before rfl

theorem keepsStates_losePeer (a : Address) (s : State) : KeepsStates s (losePeer a s) := by
  have hlost : KeepsStates s (write [.peerLost a] (s.setPeer a (s.peer a).lose)) := (keepsStates_write _ _).after rfl
  exact hlost.trans ((keepsStates_evaluateGroupBusy _).after rfl)

/-! ### Station states -/

/-- A station that has entered MUTE agrees with it, where its window was closed (R59, R65, R84, R155). -/
theorem EntersMute.statesSound {r : MuteReason} {s t : State} (h : EntersMute r s t) (hw : s.config.window = .closed)
    (hf : s.link.failures ≤ failureLimit) : StatesSound t := by
  have hmode : t.station.mode = .mute r := congrArg Station.mode h.station
  have hwindow : t.config.window = .closed := by rw [h.config, hw]
  refine ⟨?_, ?_, fun _ => ⟨h.list, h.attempt⟩, ?_, ?_, ?_⟩
  · simp [WindowSound, hmode, hwindow]
  · simp [DisarmedSound, hmode]
  · rw [h.list]; exact Nat.zero_le 2
  · rw [h.failures]; exact hf
  · simp [hmode, Mode.transmits]

theorem keepsStates_enterMute (r : MuteReason) {s : State} (hm : s.station.mode.transmits = true) :
    KeepsStates s (enterMute r s) := by
  have hmode := (Mode.transmits_iff _).1 hm
  intro hs
  refine (entersMute hmode).statesSound (hs.closed ?_) hs.bounded.2.1
  rcases hmode with h | h <;> simp [h]

/-- A station that has entered ROLLCALL agrees with it, where its window was closed, few GROUP COMMANDs were listed, and
few failures were counted (R32, R59, R65, R79, R155). -/
theorem statesSound_enterRollCall {s : State} (hw : s.config.window = .closed) (hc : s.link.list.commands.length ≤ 2)
    (hf : s.link.failures < failureLimit) : StatesSound (enterRollCall s) := by
  rw [enterRollCall_eq]
  exact ⟨iff_of_false (by simp [hw]) nofun, fun _ => rfl, nofun, hc, hf.le, fun _ => hf⟩

/-- The entry by the address from CONFIG, with the window closed and the transceiver as it leaves CONFIG (R79, R84). -/
theorem statesSound_enterByAddress {s : State} (hm : s.station.mode = .config) (hw : s.config.window = .closed)
    (hl : s.link.list = emptyList) (hf : s.link.failures = 0) : StatesSound (enterByAddress s) := by
  unfold enterByAddress
  split
  · exact (entersMute_of_config hm).statesSound hw (by rw [hf]; exact Nat.zero_le _)
  · exact statesSound_enterRollCall hw (by rw [hl]; exact Nat.zero_le _) (by rw [hf]; decide)

/-- No entry from CONFIG brings an offer (R34). -/
theorem enterByAddress_offers {s : State} (hm : s.station.mode = .config) : (enterByAddress s).offers = s.offers := by
  unfold enterByAddress
  split
  · exact (entersMute_of_config hm).offers
  · rw [enterRollCall_eq]

/-- In ACTIVE the units may be armed (R32). -/
theorem keepsStates_armUnits {s : State} (hm : s.station.mode = .active) : KeepsStates s (armUnits s) := fun hs =>
  ⟨hs.window, fun h => absurd (hm ▸ h : Mode.active = .config ∨ Mode.active = .rollCall) (by decide), hs.silent, hs.bounded⟩

theorem keepsStates_endRollCall {s : State} (hm : s.station.mode = .rollCall) : KeepsStates s (endRollCall s) := by
  have hactive : KeepsStates s ((s.setMode .active).setPeers { s.peers with rollCallTimer := none }) := fun hs => by
    have hw := hs.closed (by simp [hm])
    obtain ⟨hcommands, hlimit, hsends⟩ := hs.bounded
    exact ⟨iff_of_false (by simp [State.setMode, hw]) nofun, nofun, nofun, hcommands, hlimit,
      fun _ => hsends (by rw [hm]; rfl)⟩
  exact (hactive.trans (keepsStates_handOnHoldMark _)).trans
    ((keepsStates_armUnits (by rw [handOnHoldMark_station]; rfl)).trans (keepsStates_examineRegister _))

theorem keepsStates_takeOwnAddress (s : State) : KeepsStates s (takeOwnAddress s) := by
  unfold takeOwnAddress
  split
  · rename_i hm
    exact keepsStates_enterMute _ (by rw [hm]; rfl)
  · exact .refl s

/-- The 16th failure of a station that sends makes it MUTE (R65). -/
theorem keepsStates_failAttempt {s : State} (hm : s.station.mode.transmits = true) : KeepsStates s (failAttempt s) := by
  intro hs
  obtain ⟨hcommands, -, hsends⟩ := hs.bounded
  have hbelow := hsends hm
  show StatesSound (if failureLimit ≤ s.link.failures + 1 then enterMute .lineFault (failedOnce s) else failedOnce s)
  split
  · have hmode := (Mode.transmits_iff _).1 hm
    refine (entersMute (s := failedOnce s) hmode).statesSound (hs.closed ?_) (Nat.succ_le_of_lt hbelow)
    rcases hmode with h | h <;> simp [h]
  · rename_i hfew
    exact ⟨hs.window, hs.disarmed, fun hmute => absurd (hmute.symm.trans hm) Bool.false_ne_true, hcommands,
      Nat.succ_le_of_lt hbelow, fun _ => Nat.lt_of_not_le hfew⟩

theorem keepsStates_applyCommand (c : GroupCommand) (mask : Mask) (s : State) :
    KeepsStates s (applyCommand c mask s) := by
  cases c with
  | clearCounters => exact keepsStates_clearCounters mask s
  | hold => exact keepsStates_setGroupHold true s
  | resume => exact (keepsStates_setGroupHold false _).after (by split <;> rfl)

theorem keepsStates_reportSuccess (a : Attempt) (s : State) : KeepsStates s (reportSuccess a s) := by
  unfold reportSuccess
  split
  · split
    · exact .refl s
    · exact keepsStates_announceClaim s
  · exact keepsStates_applyCommand _ _ s
  · exact .aside rfl

/-! ### Attempts (R57 to R62) -/

/-- The unmarked list holds the GROUP COMMANDs that it held (R60). -/
theorem unmarked_commands (l : TransmitList) (m : Message) : (unmarked l m).commands = l.commands := by
  cases m <;> rfl

theorem Link.unmark_commands (l : Link) : l.unmark.list.commands = l.list.commands := by
  unfold Link.unmark
  split <;> rfl

theorem Link.unmark_failures (l : Link) : l.unmark.failures = l.failures := by
  unfold Link.unmark
  split <;> rfl

/-- A success takes at most its own entry off the list (R62). -/
theorem TransmitList.sent_commands_length (l : TransmitList) (m : Message) (w : Bool) :
    (l.sent m w).commands.length ≤ l.commands.length := by
  cases m with
  | trigger t => cases w <;> exact le_rfl
  | command c => simp [TransmitList.sent]
  | beacon b => exact le_rfl

/-- An attempt starts in a station that sends (R53, R60). -/
theorem transmits_of_attemptNow {s : State} {m : Message} (h : s.attemptNow = some m) :
    s.station.mode.transmits = true := by
  unfold State.attemptNow at h
  split at h
  · rename_i hnow
    simp only [Bool.and_eq_true] at hnow
    exact hnow.1.1.2
  · cases h

theorem keepsStates_brokenOff {s : State} {a : Attempt} (hm : s.station.mode.transmits = true) (e : BitError) :
    KeepsStates s (brokenOff e a s) :=
  keepsStates_setLink_sending (s := s) (l := (brokenOff e a s).link) hm
    (congrArg List.length (unmarked_commands s.link.list a.message)).le le_rfl

/-! ### What a command keeps -/

/-- An event from `s` to `t` keeps the agreements, and leaves no offer to take where it found none. -/
def KeepsSettled (s t : State) : Prop := StatesSound s → OffersTaken s → StatesSound t ∧ OffersTaken t

namespace KeepsSettled

/-- An event whose offers the units take at its end (R34, R48). -/
theorem settled {s t : State} (h : KeepsStates s t) : KeepsSettled s (settle t) := fun hs _ =>
  ⟨keepsStates_takeOffers _ t (h hs), offersTaken_settle t⟩

/-- An event that brings no offer. -/
theorem offered {s t : State} (h : KeepsStates s t) (ho : t.offers = s.offers) : KeepsSettled s t := fun hs hoffers =>
  ⟨h hs, ho.trans hoffers⟩

theorem aside {s t : State} (h : t.view = s.view) (ho : t.offers = s.offers) : KeepsSettled s t := offered (.aside h) ho

theorem refl (s : State) : KeepsSettled s s := aside rfl rfl

/-- An event that ends in a state that agrees with itself, whatever it comes from. -/
theorem of_sound {s t : State} (h : StatesSound t) (ho : t.offers = []) : KeepsSettled s t := fun _ _ => ⟨h, ho⟩

theorem answers {s t : State} (h : KeepsSettled s t) : Answers KeepsSettled s (.next t) := answers_next h

/-- An event that happens under a condition, and otherwise leaves the state as it is. -/
theorem answers_if {c : Prop} [Decidable c] {s t : State} (h : c → KeepsSettled s t) :
    Answers KeepsSettled s (if c then .next t else .next s) := by
  split
  · exact (h ‹_›).answers
  · exact (refl s).answers

theorem answers_transact {f : State → State} {s : State} (h : KeepsSettled s (f s)) :
    Answers KeepsSettled s (transact f s) := by
  rw [transact_eq]
  split
  · exact h.answers
  · exact answers_next (aside rfl rfl)

end KeepsSettled

theorem KeepsStates.answer {s t : State} (h : KeepsStates s t) (r : Response) : KeepsStates s (t.answer r) :=
  h.before rfl

theorem keepsSettled_answer (s : State) (r : Response) : KeepsSettled s (s.answer r) := .aside rfl rfl

theorem keepsSettled_result (s : State) (r : Result) : KeepsSettled s (s.result r) := .aside rfl rfl

theorem keepsSettled_dispatch {fieldsValid : Bool} {a : Address} {owner : State → State} {s : State}
    (h : ∀ u, KeepsStates u (owner u)) : Answers KeepsSettled s (dispatch fieldsValid a owner s) := by
  have hjudged : KeepsStates s (s.setLink s.link.judged) := keepsStates_setLink_same rfl rfl rfl
  unfold dispatch
  dsimp only
  split
  · split
    · exact (KeepsSettled.offered hjudged rfl).answers
    · split
      · exact (KeepsSettled.settled (hjudged.trans (keepsStates_takeOwnAddress _))).answers
      · exact (KeepsSettled.settled (hjudged.trans (h _))).answers
  · exact (KeepsSettled.refl s).answers

/-! ### Commands of lines, units and the group line -/

theorem keepsSettled_execLinePinChange (n : Fin 16) (l : Level) (s : State) :
    Answers KeepsSettled s (execLinePinChange n l s) := by
  unfold execLinePinChange
  split
  · exact (KeepsSettled.refl s).answers
  · split
    · exact (KeepsSettled.settled (keepsStates_moveLine n l s)).answers
    · exact answers_next (.aside rfl rfl)

theorem keepsSettled_moveVeto (l : Level) (s : State) : KeepsSettled s (moveVeto l s) := by
  unfold moveVeto
  dsimp only
  split <;> split <;> exact .aside rfl rfl

theorem keepsSettled_execVetoPinChange (l : Level) (s : State) : Answers KeepsSettled s (execVetoPinChange l s) := by
  unfold execVetoPinChange
  split
  · exact (KeepsSettled.refl s).answers
  · split
    · exact (keepsSettled_moveVeto l s).answers
    · exact answers_next (.aside rfl rfl)

theorem keepsSettled_execWindowExpiry (k : Fin 4) (s : State) : Answers KeepsSettled s (execWindowExpiry k s) := by
  unfold execWindowExpiry
  split
  · split
    · exact (KeepsSettled.refl s).answers
    · exact (KeepsSettled.settled (keepsStates_expireWindow ‹_›)).answers
  · exact (KeepsSettled.refl s).answers

theorem keepsSettled_execAttemptStart (s : State) : Answers KeepsSettled s (execAttemptStart s) := by
  unfold execAttemptStart
  split
  · exact (KeepsSettled.refl s).answers
  · exact answers_next (.offered (keepsStates_setLink_sending (transmits_of_attemptNow ‹_›) le_rfl le_rfl) rfl)

theorem keepsSettled_execArbitrationLoss (s : State) : Answers KeepsSettled s (execArbitrationLoss s) := by
  refine KeepsSettled.answers_if fun hloss => .offered (fun hs => ?_) rfl
  obtain ⟨-, ha⟩ := Bool.and_eq_true_iff.1 hloss
  obtain ⟨a, ha⟩ := Option.isSome_iff_exists.1 ha
  exact keepsStates_setLink_sending (hs.transmits ha) (congrArg List.length s.link.unmark_commands).le
    s.link.unmark_failures.le hs

theorem keepsSettled_execAttemptFailure (e : BitError) (s : State) :
    Answers KeepsSettled s (execAttemptFailure e s) := by
  unfold execAttemptFailure
  split
  · rename_i hfailure
    obtain ⟨-, ha⟩ := Bool.and_eq_true_iff.1 hfailure
    obtain ⟨a, ha⟩ := Option.isSome_iff_exists.1 ha
    dsimp only
    rw [setLink_breakOff ha]
    split
    · exact (KeepsSettled.settled fun hs =>
        (keepsStates_brokenOff (hs.transmits ha) e).trans (keepsStates_enterMute _ (hs.transmits ha)) hs).answers
    · exact (KeepsSettled.settled fun hs =>
        (keepsStates_brokenOff (hs.transmits ha) e).trans (keepsStates_failAttempt (hs.transmits ha)) hs).answers
  · exact (KeepsSettled.refl s).answers

theorem keepsSettled_execAttemptSuccess (s : State) : Answers KeepsSettled s (execAttemptSuccess s) := by
  unfold execAttemptSuccess
  split
  · exact (KeepsSettled.refl s).answers
  · rename_i a ha
    refine KeepsSettled.answers_if fun _ => .settled fun hs => keepsStates_reportSuccess a _ ?_
    exact keepsStates_setLink_sending (hs.transmits ha) (TransmitList.sent_commands_length _ _ _) (Nat.zero_le _) hs

/-! ### Commands of supply, RESET and the control port -/

/-- A station in CONFIG with an open window, disarmed units and a silent transceiver (R32, R59, R71, R155). -/
theorem statesSound_of_restarted {t : State} (hm : t.station.mode = .config) (hw : t.config.window = .isOpen)
    (hu : t.units = disarmedUnits) (hl : t.link = restartedLink) : StatesSound t := by
  refine ⟨iff_of_true hw hm, fun _ => hu, fun _ => ?_, ?_, ?_, fun h => ?_⟩
  · rw [hl]; exact ⟨rfl, rfl⟩
  · rw [hl]; exact Nat.zero_le 2
  · rw [hl]; exact Nat.zero_le _
  · rw [hl]; decide

theorem keepsSettled_powerRestart (sa : Address) (s : State) : KeepsSettled s (powerRestart sa s) :=
  .of_sound (statesSound_of_restarted rfl rfl rfl rfl) rfl

theorem keepsSettled_blankStation (p : Power) (sa : Address) (s : State) : KeepsSettled s (blankStation p sa s) :=
  .of_sound (statesSound_of_restarted rfl rfl rfl rfl) rfl

theorem keepsSettled_execPowerRestart (sa : Address) (s : State) : Answers KeepsSettled s (execPowerRestart sa s) := by
  unfold execPowerRestart
  split
  · exact (keepsSettled_powerRestart sa s).answers
  · exact (keepsSettled_blankStation _ sa s).answers

theorem keepsSettled_execResetLow (s : State) : Answers KeepsSettled s (execResetLow s) := by
  have hheld : KeepsStates s (s.setLink s.link.hold) :=
    keepsStates_setLink (l := s.link.hold) (Nat.le_refl s.link.list.commands.length) (Nat.le_refl s.link.failures)
      fun _ hlist _ => ⟨hlist, rfl⟩
  unfold execResetLow
  split
  · exact answers_next (.offered (hheld.before rfl) rfl)
  · exact answers_next (.aside rfl rfl)

theorem keepsSettled_execHardRestart (sa : Address) (s : State) : Answers KeepsSettled s (execHardRestart sa s) := by
  unfold execHardRestart
  split
  · split
    · exact (keepsSettled_powerRestart sa s).answers
    · rw [hardRestart_eq]
      exact answers_next (.of_sound (statesSound_of_restarted rfl rfl rfl rfl) rfl)
  · exact answers_next (.aside rfl rfl)

theorem keepsSettled_execRestart (sa : Address) (s : State) : Answers KeepsSettled s (execRestart sa s) := by
  apply KeepsSettled.answers_transact
  split
  · exact keepsSettled_result s _
  · rename_i hm
    rw [softRestart_eq]
    refine fun hs _ => ⟨?_, enterByAddress_offers (s := softened sa s) rfl⟩
    have hentered := statesSound_enterByAddress (s := softened sa s) rfl (hs.closed hm) rfl rfl
    exact hentered.of_view rfl

/-- Only an ACTIVE station has its register released (R124). -/
theorem examineAfter_of_not_active {t : State} (hm : t.station.mode ≠ .active) (s : State) : examineAfter s t = t := by
  rcases examineAfter_cases s t with h | h
  · exact h
  · rcases examineRegister_cases t with hsame | ⟨_, _, hactive, _⟩
    · rw [h, hsame]
    · exact absurd hactive hm

/-- In CONFIG own BUSY is evaluated without an examination of the register (R119, R124, R157). -/
theorem applyWrite_of_config {s : State} (hm : s.station.mode = .config) (i : Item) (x : Settings) :
    applyWrite i x s = if i = .reserve then updateBusy (s.setConfig { s.config with items := x })
      else s.setConfig { s.config with items := x } := by
  have hmode : (updateBusy (s.setConfig { s.config with items := x })).station.mode ≠ .active := by
    rw [(captureFrame_updateBusy _).station, State.setConfig_station, hm]
    decide
  rw [applyWrite, evaluateBusy, examineAfter_of_not_active hmode]

theorem keepsSettled_execWriteConfig (item index : Byte) (value : BitVec 56) (s : State) :
    Answers KeepsSettled s (execWriteConfig item index value s) := by
  apply KeepsSettled.answers_transact
  split
  · exact keepsSettled_result s _
  · rename_i hopen
    split
    · exact keepsSettled_result s _
    · split
      · exact keepsSettled_result s _
      · rename_i x _
        intro hs
        have hm : s.station.mode = .config := not_imp_comm.1 hs.closed hopen
        have hupdated : KeepsStates s (updateBusy (s.setConfig { s.config with items := x })) :=
          (keepsStates_updateBusy _).after rfl
        rw [applyWrite_of_config hm]
        split
        · exact KeepsSettled.offered (hupdated.answer _) (updateBusy_offers _) hs
        · exact KeepsSettled.aside rfl rfl hs

theorem keepsSettled_execReadConfig (item index : Byte) (s : State) :
    Answers KeepsSettled s (execReadConfig item index s) := by
  apply KeepsSettled.answers_transact
  split
  · exact keepsSettled_result s _
  · exact keepsSettled_answer s _

theorem keepsSettled_execCloseConfig (s : State) : Answers KeepsSettled s (execCloseConfig s) := by
  apply KeepsSettled.answers_transact
  split
  · exact keepsSettled_result s _
  · rename_i hopen
    split
    · exact keepsSettled_answer s _
    · intro hs hoffers
      have hm : s.station.mode = .config := not_imp_comm.1 hs.closed hopen
      have hentered : StatesSound (closeWindow s) := statesSound_enterByAddress hm rfl rfl rfl
      have hnone : (closeWindow s).offers = s.offers := by
        rw [closeWindow, enterByAddress_offers]
        · rfl
        · exact hm
      exact ⟨hentered.of_view rfl, hnone.trans hoffers⟩

theorem keepsSettled_execReadPeer (a : Byte) (s : State) : Answers KeepsSettled s (execReadPeer a s) := by
  apply KeepsSettled.answers_transact
  dsimp only
  split
  · exact keepsSettled_result s _
  · split
    · exact keepsSettled_result s _
    · exact keepsSettled_answer s _

theorem keepsSettled_execReadHistoryNext (n : Byte) (s : State) :
    Answers KeepsSettled s (execReadHistoryNext n s) := by
  apply KeepsSettled.answers_transact
  split
  · exact .aside rfl rfl
  · exact keepsSettled_result s _

theorem keepsSettled_execReadRecords (n : Byte) (s : State) : Answers KeepsSettled s (execReadRecords n s) := by
  apply KeepsSettled.answers_transact
  split
  · exact .aside rfl rfl
  · exact keepsSettled_result s _

theorem keepsStates_releaseSlot (i : Fin 8) (e : Episode) (s : State) : KeepsStates s (releaseSlot i e s) :=
  (keepsStates_evaluateBusy _).after rfl

theorem keepsSettled_execReleaseEpisode (slot : Byte) (s : State) :
    Answers KeepsSettled s (execReleaseEpisode slot s) := by
  apply KeepsSettled.answers_transact
  split
  · exact keepsSettled_result s _
  · split
    · exact keepsSettled_result s _
    · exact keepsSettled_result s _
    · exact .settled ((keepsStates_releaseSlot _ _ s).answer _)

theorem keepsSettled_execSoftwareTrigger (s : State) : Answers KeepsSettled s (execSoftwareTrigger s) := by
  have hrequest := keepsStates_request .software s.time.group s
  apply KeepsSettled.answers_transact
  split
  · exact keepsSettled_result s _
  · rename_i heq
    rw [heq] at hrequest
    exact .settled (hrequest.answer _)

theorem keepsSettled_execCloseEpisode (s : State) : Answers KeepsSettled s (execCloseEpisode s) := by
  apply KeepsSettled.answers_transact
  split
  · exact keepsSettled_result s _
  · split
    · exact .settled ((keepsStates_closeEpisode .cutByHost s).answer _)
    · exact keepsSettled_result s _

theorem keepsSettled_execSetLocalHold (v : Byte) (s : State) : Answers KeepsSettled s (execSetLocalHold v s) := by
  apply KeepsSettled.answers_transact
  split
  · exact .settled ((keepsStates_setLocalHold _ s).answer _)
  · exact keepsSettled_result s _

/-- A GROUP COMMAND is listed in ACTIVE, where fewer than two are (R60, R133). -/
theorem keepsStates_listCommand {s : State} (hm : s.station.mode = .active) (hc : s.link.list.commands.length < 2)
    (c : GroupCommand) (argument : Mask) : KeepsStates s (s.setLink (s.link.listCommand c argument)) := fun hs => by
  refine ⟨hs.window, hs.disarmed, fun hmute => ?_, ?_, hs.bounded.2⟩
  · rw [State.setLink_station, hm] at hmute
    exact absurd hmute (by decide)
  · show (s.link.list.commands ++ [(c, argument)]).length ≤ 2
    rw [List.length_append]
    exact hc

theorem keepsSettled_execSendGroupCommand (code : Byte) (mask : Mask) (s : State) :
    Answers KeepsSettled s (execSendGroupCommand code mask s) := by
  apply KeepsSettled.answers_transact
  split
  · exact keepsSettled_result s _
  · split
    · exact keepsSettled_result s _
    · split
      · exact keepsSettled_result s _
      · rename_i hm hc
        exact .offered ((keepsStates_listCommand (not_not.1 hm) (Nat.lt_of_not_le hc) _ _).answer _) rfl

theorem keepsSettled_execRejoin (s : State) : Answers KeepsSettled s (execRejoin s) := by
  apply KeepsSettled.answers_transact
  split
  · rename_i hm
    refine .offered (fun hs => ?_) ?_
    · have hw := hs.closed (by simp [hm])
      have hentered : StatesSound (rejoinGroup s) := statesSound_enterRollCall hw hs.bounded.1 (by decide : 0 < 16)
      exact hentered.of_view rfl
    · rw [rejoinGroup, enterRollCall_eq]
      rfl
  · exact keepsSettled_result s _

/-- The beacon timer stops, and a beacon is requested (R78). -/
theorem keepsSettled_requestsBeacon (s : State) :
    KeepsSettled s (s.setPeers { s.peers with beaconTimer := none }).requestBeacon :=
  .offered ((keepsStates_requestBeacon _).after rfl) (State.requestBeacon_offers _)

/-! ### The statement -/

/-- Every command keeps the agreements, and takes every offer that it brings. -/
theorem keepsSettled_exec (c : Instr) (s : State) : Answers KeepsSettled s (exec c s) := by
  cases c with
  | linePinChange n l => exact keepsSettled_execLinePinChange n l s
  | qualificationTimerExpiry n => exact KeepsSettled.answers_if fun _ => .settled (keepsStates_qualifyLine n _ s)
  | vetoPinChange l => exact keepsSettled_execVetoPinChange l s
  | vetoQualificationExpiry => exact KeepsSettled.answers_if fun _ => .settled (keepsStates_qualifyVeto _ s)
  | windowExpiry k => exact keepsSettled_execWindowExpiry k s
  | postTimeExpiry => exact KeepsSettled.answers_if fun _ => .settled (keepsStates_closeEpisode .timed s)
  | holdLimitExpiry => exact KeepsSettled.answers_if fun _ => .settled (keepsStates_expireRegister s)
  | attemptStart => exact keepsSettled_execAttemptStart s
  | arbitrationLoss => exact keepsSettled_execArbitrationLoss s
  | attemptFailure e => exact keepsSettled_execAttemptFailure e s
  | attemptSuccess => exact keepsSettled_execAttemptSuccess s
  | ownAddressMessage =>
    exact KeepsSettled.answers_if fun _ =>
      .settled ((keepsStates_setLink_same (l := s.link.judged) rfl rfl rfl).trans (keepsStates_takeOwnAddress _))
  | triggerReceived m =>
    exact keepsSettled_dispatch fun u =>
      (keepsStates_hearPeer m.sender u).trans ((keepsStates_controllerTrigger m _).trans (keepsStates_bring _ _))
  | beaconReceived m => exact keepsSettled_dispatch (keepsStates_handleBeacon m _)
  | clearCountersReceived a mask =>
    exact keepsSettled_dispatch fun u => (keepsStates_hearPeer a u).trans (keepsStates_applyCommand _ _ _)
  | holdReceived a =>
    exact keepsSettled_dispatch fun u => (keepsStates_hearPeer a u).trans (keepsStates_applyCommand _ _ _)
  | resumeReceived a =>
    exact keepsSettled_dispatch fun u => (keepsStates_hearPeer a u).trans (keepsStates_applyCommand _ _ _)
  | silenceTimerExpiry a => exact KeepsSettled.answers_if fun _ => .settled (keepsStates_losePeer a s)
  | beaconTimerExpiry => exact KeepsSettled.answers_if fun _ => keepsSettled_requestsBeacon s
  | rollCallExpiry =>
    refine KeepsSettled.answers_if fun hdue => .settled (keepsStates_endRollCall ?_)
    exact (s.rollCallDue_iff.1 (Bool.and_eq_true_iff.1 hdue).2).1
  | powerRestart sa => exact keepsSettled_execPowerRestart sa s
  | supplyLoss => exact answers_next (keepsSettled_blankStation _ _ s)
  | resetLow => exact keepsSettled_execResetLow s
  | hardRestart sa => exact keepsSettled_execHardRestart sa s
  | writeConfig item index value => exact keepsSettled_execWriteConfig item index value s
  | readConfig item index => exact keepsSettled_execReadConfig item index s
  | closeConfig => exact keepsSettled_execCloseConfig s
  | readPeer a => exact keepsSettled_execReadPeer a s
  | readHistoryNext n => exact keepsSettled_execReadHistoryNext n s
  | readRecords n => exact keepsSettled_execReadRecords n s
  | releaseEpisode slot => exact keepsSettled_execReleaseEpisode slot s
  | softwareTrigger => exact keepsSettled_execSoftwareTrigger s
  | closeEpisode => exact keepsSettled_execCloseEpisode s
  | setLocalHold v => exact keepsSettled_execSetLocalHold v s
  | sendGroupCommand code mask => exact keepsSettled_execSendGroupCommand code mask s
  | rejoin => exact keepsSettled_execRejoin s
  | restart sa => exact keepsSettled_execRestart sa s
  | lineFree | messageAbandon | messageInvalid | startBitReceived =>
    exact KeepsSettled.answers_if fun _ => .offered (keepsStates_setLink_same rfl rfl rfl) rfl
  | groupTimeLimit => exact KeepsSettled.answers_if fun _ => .aside rfl rfl
  | status | readCounters | readHistory | listEpisodes | selectEpisode | readHeader | ackAttention | shortTransaction
  | unknownCommand =>
    apply KeepsSettled.answers_transact
    exact .aside rfl rfl

theorem keepsSettled_tick (s : State) : KeepsSettled s (tick s) := by
  unfold tick
  split
  · exact .aside rfl rfl
  · exact .refl s

/-- Settles O11: the tick of the clock and every command keep the agreements, and leave no offer to take. -/
theorem stationStatesAndListKept : Obligations.StationStatesAndListKept := by
  rintro s t ⟨hwindow, hdisarmed, hoffers, hsilent, hbounded⟩ hstep
  have hs : StatesSound s := ⟨hwindow, hdisarmed, hsilent, hbounded⟩
  have hkeeps : StatesSound t ∧ OffersTaken t := by
    unfold step at hstep
    split at hstep
    · cases hstep
      exact keepsSettled_tick s hs hoffers
    · exact keepsSettled_exec _ _ t hstep (hs.of_view rfl) hoffers
  obtain ⟨ht, htaken⟩ := hkeeps
  exact ⟨ht.window, ht.disarmed, htaken, ht.silent, ht.bounded⟩

end Sys2Proof.Machine
end

section
/-! PROOFS. A station that is held in reset or without supply takes no command, and a transaction that it does not take is
discarded (R151, R152, R161). -/

namespace Sys2Proof.Machine

open Sys2Proof.Machine.Claims

/-! ### Events (R151, R152) -/

theorem hears_of_held {s : State} (hr : s.running = false) : s.hears = false := by
  simp [State.hears, hr]

theorem attemptNow_of_held {s : State} (hr : s.running = false) : s.attemptNow = none := by
  simp [State.attemptNow, hr]

/-- A held station hears no message (R152). -/
theorem dispatch_of_held {fieldsValid : Bool} {a : Address} {owner : State → State} {s : State}
    (hr : s.running = false) : dispatch fieldsValid a owner s = .next s := by
  simp [dispatch, hears_of_held hr]

/-- Of the events, a held station takes those of pins, supply, RESET and group time alone (log 6). -/
theorem exec_of_held {c : Instr} {s : State} (hr : s.running = false) (hc : actsWhileHeld c = false)
    (ht : ¬ Transacts c) : exec c s = .next s := by
  cases c with
  | linePinChange | vetoPinChange | groupTimeLimit | powerRestart | supplyLoss | resetLow | hardRestart => cases hc
  | status | writeConfig | readConfig | closeConfig | readCounters | readPeer | readHistory | readHistoryNext
  | listEpisodes | selectEpisode | readHeader | readRecords | releaseEpisode | softwareTrigger | closeEpisode
  | setLocalHold | sendGroupCommand | rejoin | restart | ackAttention => exact absurd (.inl nofun) ht
  | shortTransaction => exact absurd (.inr (.inl rfl)) ht
  | unknownCommand => exact absurd (.inr (.inr rfl)) ht
  | qualificationTimerExpiry | vetoQualificationExpiry | windowExpiry | postTimeExpiry | holdLimitExpiry | lineFree
  | arbitrationLoss | attemptFailure | messageAbandon | silenceTimerExpiry | beaconTimerExpiry | rollCallExpiry
  | startBitReceived => exact if_neg (by simp [hr])
  | messageInvalid | ownAddressMessage => exact if_neg (by simp [hears_of_held hr])
  | triggerReceived | beaconReceived | clearCountersReceived | holdReceived | resumeReceived =>
    exact if_neg (by simp [hears_of_held hr])
  | attemptStart => exact exec_attemptStart_of_none (attemptNow_of_held hr)
  | attemptSuccess =>
    show execAttemptSuccess s = _
    unfold execAttemptSuccess
    split
    · rfl
    · exact if_neg (by simp [hr])

/-! ### Transactions (R152, R161) -/

/-- A transaction of the port is a function of the state, which `transact` takes or discards (R163). -/
theorem exec_of_transacts {c : Instr} (h : Transacts c) : ∃ f, ∀ s, exec c s = transact f s := by
  cases c with
  | status | writeConfig | readConfig | closeConfig | readCounters | readPeer | readHistory | readHistoryNext
  | listEpisodes | selectEpisode | readHeader | readRecords | releaseEpisode | softwareTrigger | closeEpisode
  | setLocalHold | sendGroupCommand | rejoin | restart | ackAttention | shortTransaction | unknownCommand =>
    exact ⟨_, fun _ => rfl⟩
  | linePinChange | vetoPinChange | groupTimeLimit | powerRestart | supplyLoss | resetLow | hardRestart
  | qualificationTimerExpiry | vetoQualificationExpiry | windowExpiry | postTimeExpiry | holdLimitExpiry | lineFree
  | arbitrationLoss | attemptFailure | messageAbandon | silenceTimerExpiry | beaconTimerExpiry | rollCallExpiry
  | startBitReceived | messageInvalid | ownAddressMessage | triggerReceived | beaconReceived | clearCountersReceived
  | holdReceived | resumeReceived | attemptStart | attemptSuccess => simp [Transacts, transactionOf] at h

/-- RESET is released now where HARD_RESTART stands next in the queue (R152, log 32). -/
theorem atRelease_of_releasing {s : State} (h : s.releasing = true) : AtRelease s := by
  unfold State.releasing at h
  simp only [Bool.and_eq_true, beq_iff_eq] at h
  obtain ⟨⟨hsupply, hreset⟩, hnext⟩ := h
  split at hnext
  · rename_i sa rest hpending
    exact ⟨hsupply, hreset, sa, rest, hpending⟩
  · cases hnext

/-- Settles O4: the events that a held station lets pass, and the transactions that it discards. -/
theorem heldStationTakesNoCommand : Obligations.HeldStationTakesNoCommand := by
  refine ⟨fun c s => exec_of_held, fun c s hc h => ?_⟩
  obtain ⟨f, hf⟩ := exec_of_transacts hc
  rw [hf, transact_of_discarded]
  · rfl
  · refine h.imp_right fun ⟨hr, hrelease⟩ => ?_
    rw [hr, Bool.false_or]
    exact Bool.eq_false_iff.2 (mt atRelease_of_releasing hrelease)

end Sys2Proof.Machine
end

section
/-! PROOFS. The values of the configuration items: which bytes each coder takes, and as what (R156, R176, section 9.2.2). -/

namespace Sys2Proof.Machine

open Sys2Proof.Machine.Claims

/-! ### The coders of the named values -/

theorem inRange_eq_some_iff {lo hi n y : Nat} : inRange lo hi n = some y ↔ y = n ∧ lo ≤ n ∧ n ≤ hi := by
  unfold inRange
  split
  · rename_i h
    simp [h, eq_comm]
  · rename_i h
    simp [h]

theorem bitRateOf_eq_some_iff {n : Nat} {y : BitRate} : bitRateOf n = some y ↔ n = y.kbit := by
  constructor
  · intro h
    unfold bitRateOf at h
    split at h <;> cases h <;> rfl
  · rintro rfl
    cases y <;> rfl

theorem recordSettingOf_eq_some_iff {n : Nat} {y : RecordSetting} : recordSettingOf n = some y ↔ n = y.code := by
  constructor
  · intro h
    unfold recordSettingOf at h
    split at h <;> cases h <;> rfl
  · rintro rfl
    cases y <;> rfl

theorem dirOf_eq_some_iff {n : Nat} {y : Dir} : dirOf n = some y ↔ n = dirCode y := by
  constructor
  · intro h
    unfold dirOf at h
    split at h <;> cases h <;> rfl
  · rintro rfl
    cases y <;> rfl

theorem enableOf_eq_some_iff {n : Nat} {y : Bool} : enableOf n = some y ↔ n = y.toNat := by
  constructor
  · intro h
    unfold enableOf at h
    split at h <;> cases h <;> rfl
  · rintro rfl
    cases y <;> rfl

theorem combinatorOf_eq_some_iff {n : Nat} {y : Combinator} : combinatorOf n = some y ↔ n = y.code := by
  constructor
  · intro h
    unfold combinatorOf at h
    split at h <;> cases h <;> rfl
  · rintro rfl
    cases y <;> rfl

theorem edgeSelectOf_eq_some_iff {n : Nat} {y : EdgeSelect} : edgeSelectOf n = some y ↔ n = y.code := by
  constructor
  · intro h
    unfold edgeSelectOf at h
    split at h <;> cases h <;> rfl
  · rintro rfl
    cases y <;> rfl

theorem compareOf_eq_some_iff {n : Nat} {y : Compare} : compareOf n = some y ↔ n = y.code := by
  constructor
  · intro h
    unfold compareOf at h
    split at h <;> cases h <;> rfl
  · rintro rfl
    cases y <;> rfl

/-! ### The coders of the masks (log 16) -/

theorem maskOf_eq_some_iff {n : Nat} {m : Mask} : maskOf n = some m ↔ m.toNat = n := by
  unfold maskOf
  split
  · rename_i h
    rw [Option.some_inj, ← BitVec.toNat_inj, BitVec.toNat_ofNat, Nat.mod_eq_of_lt h, eq_comm]
  · rename_i h
    exact iff_of_false nofun fun hm => h (hm ▸ m.isLt)

theorem attentionMaskOf_eq_some_iff {n : Nat} {m : BitVec 6} : attentionMaskOf n = some m ↔ m.toNat = n := by
  unfold attentionMaskOf
  split
  · rename_i h
    rw [Option.some_inj, ← BitVec.toNat_inj, BitVec.toNat_ofNat, Nat.mod_eq_of_lt h, eq_comm]
  · rename_i h
    exact iff_of_false nofun fun hm => h (hm ▸ m.isLt)

/-! ### Conditions, judged whole (R156) -/

theorem valueByte_eq (v : BitVec 56) (j : Nat) : valueByte v j = v.toNat / 2 ^ (8 * (6 - j)) % 256 := by
  rw [valueByte, pow_mul]
  norm_num

theorem spells_empty_iff {v : BitVec 56} : Spells v .empty ↔ valueByte v 0 = 0 := by
  rw [valueByte_eq]
  rfl

theorem spells_line_iff {v : BitVec 56} {n : Fin 16} {e : EdgeSelect} :
    Spells v (.line n e) ↔ valueByte v 0 = 1 ∧ valueByte v 1 = n.val ∧ valueByte v 2 = e.code := by
  simp only [valueByte_eq]
  rfl

theorem spells_counter_iff {v : BitVec 56} {n : Fin 16} {k : Compare} {limit : Word32} :
    Spells v (.counter n k limit) ↔ valueByte v 0 = 2 ∧ valueByte v 1 = n.val ∧ valueByte v 2 = k.code ∧
      valueLimit v = limit := by
  rw [← BitVec.toNat_inj, valueLimit, BitVec.toNat_ofNat]
  simp only [valueByte_eq]
  rfl

theorem spells_remote_iff {v : BitVec 56} {a : Address} :
    Spells v (.remote a) ↔ valueByte v 0 = 3 ∧ valueByte v 1 = a.toNat := by
  simp only [valueByte_eq]
  rfl

/-- The bytes that the coder of conditions takes are those that spell the condition (R156, R176). -/
theorem conditionOf_eq_some_iff {v : BitVec 56} {c : Condition} : conditionOf v = some c ↔ Spells v c := by
  constructor
  · intro h
    unfold conditionOf at h
    dsimp only at h
    split at h
    · rename_i hkind
      cases h
      exact spells_empty_iff.2 hkind
    · rename_i hkind
      split at h
      · obtain ⟨e, he, rfl⟩ := Option.map_eq_some_iff.1 h
        exact spells_line_iff.2 ⟨hkind, rfl, edgeSelectOf_eq_some_iff.1 he⟩
      · cases h
    · rename_i hkind
      split at h
      · obtain ⟨k, hk, rfl⟩ := Option.map_eq_some_iff.1 h
        exact spells_counter_iff.2 ⟨hkind, rfl, compareOf_eq_some_iff.1 hk, rfl⟩
      · cases h
    · rename_i hkind
      split at h
      · rename_i hlt
        cases h
        exact spells_remote_iff.2 ⟨hkind, (Nat.mod_eq_of_lt hlt).symm⟩
      · cases h
    · cases h
  · intro h
    cases c with
    | empty => simp [conditionOf, spells_empty_iff.1 h]
    | line n e =>
      obtain ⟨hkind, hline, hedge⟩ := spells_line_iff.1 h
      simp [conditionOf, hkind, hline, edgeSelectOf_eq_some_iff.2 hedge]
    | counter n k limit =>
      obtain ⟨hkind, hcounter, hcompare, hlimit⟩ := spells_counter_iff.1 h
      simp [conditionOf, hkind, hcounter, hlimit, compareOf_eq_some_iff.2 hcompare]
    | remote a =>
      obtain ⟨hkind, hstation⟩ := spells_remote_iff.1 h
      have hlt : a.toNat < 32 := a.isLt
      simp [conditionOf, hkind, hstation, hlt]

/-! ### Which values are taken (section 9.2.2) -/

theorem isSome_inRange {lo hi n : Nat} : (inRange lo hi n).isSome = true ↔ lo ≤ n ∧ n ≤ hi := by
  simp [Option.isSome_iff_exists, inRange_eq_some_iff]

theorem isSome_maskOf {n : Nat} : (maskOf n).isSome = true ↔ n < 2 ^ 16 := by
  unfold maskOf
  split <;> simp_all

theorem isSome_attentionMaskOf {n : Nat} : (attentionMaskOf n).isSome = true ↔ n < 2 ^ 6 := by
  unfold attentionMaskOf
  split <;> simp_all

theorem isSome_bitRateOf {n : Nat} : (bitRateOf n).isSome = true ↔ n = 125 ∨ n = 250 ∨ n = 500 ∨ n = 1000 := by
  simp only [Option.isSome_iff_exists, bitRateOf_eq_some_iff]
  constructor
  · rintro ⟨y, rfl⟩
    cases y <;> decide
  · rintro (rfl | rfl | rfl | rfl)
    exacts [⟨.kbit125, rfl⟩, ⟨.kbit250, rfl⟩, ⟨.kbit500, rfl⟩, ⟨.kbit1000, rfl⟩]

theorem isSome_recordSettingOf {n : Nat} : (recordSettingOf n).isSome = true ↔ n ≤ 3 := by
  simp only [Option.isSome_iff_exists, recordSettingOf_eq_some_iff]
  constructor
  · rintro ⟨y, rfl⟩
    cases y <;> decide
  · intro h
    interval_cases n
    exacts [⟨.never, rfl⟩, ⟨.rise, rfl⟩, ⟨.fall, rfl⟩, ⟨.both, rfl⟩]

theorem isSome_dirOf {n : Nat} : (dirOf n).isSome = true ↔ n = 1 ∨ n = 2 := by
  simp only [Option.isSome_iff_exists, dirOf_eq_some_iff]
  constructor
  · rintro ⟨y, rfl⟩
    cases y <;> decide
  · rintro (rfl | rfl)
    exacts [⟨.rise, rfl⟩, ⟨.fall, rfl⟩]

theorem isSome_enableOf {n : Nat} : (enableOf n).isSome = true ↔ n ≤ 1 := by
  simp only [Option.isSome_iff_exists, enableOf_eq_some_iff]
  constructor
  · rintro ⟨y, rfl⟩
    cases y <;> decide
  · intro h
    interval_cases n
    exacts [⟨false, rfl⟩, ⟨true, rfl⟩]

theorem isSome_combinatorOf {n : Nat} : (combinatorOf n).isSome = true ↔ n ≤ 3 := by
  simp only [Option.isSome_iff_exists, combinatorOf_eq_some_iff]
  constructor
  · rintro ⟨y, rfl⟩
    cases y <;> decide
  · intro h
    interval_cases n
    exacts [⟨.any, rfl⟩, ⟨.both, rfl⟩, ⟨.sequence, rfl⟩, ⟨.aUnlessB, rfl⟩]

theorem EdgeSelect.code_bounds (e : EdgeSelect) : 1 ≤ e.code ∧ e.code ≤ 3 := by
  cases e <;> decide

theorem Compare.code_bounds (k : Compare) : 1 ≤ k.code ∧ k.code ≤ 4 := by
  cases k <;> decide

theorem exists_edgeSelect_code {q : Nat} (h : 1 ≤ q ∧ q ≤ 3) : ∃ e : EdgeSelect, q = e.code := by
  obtain ⟨hlo, hhi⟩ := h
  interval_cases q
  exacts [⟨.rise, rfl⟩, ⟨.fall, rfl⟩, ⟨.either, rfl⟩]

theorem exists_compare_code {q : Nat} (h : 1 ≤ q ∧ q ≤ 4) : ∃ k : Compare, q = k.code := by
  obtain ⟨hlo, hhi⟩ := h
  interval_cases q
  exacts [⟨.eq, rfl⟩, ⟨.ne, rfl⟩, ⟨.lt, rfl⟩, ⟨.gt, rfl⟩]

/-- A condition is taken where its kind is one of four and the parameters that its kind carries are in range (R156). -/
theorem isSome_conditionOf {v : BitVec 56} : (conditionOf v).isSome = true ↔
    valueByte v 0 = 0 ∨ (valueByte v 0 = 1 ∧ valueByte v 1 ≤ 15 ∧ 1 ≤ valueByte v 2 ∧ valueByte v 2 ≤ 3) ∨
      (valueByte v 0 = 2 ∧ valueByte v 1 ≤ 15 ∧ 1 ≤ valueByte v 2 ∧ valueByte v 2 ≤ 4) ∨
      (valueByte v 0 = 3 ∧ valueByte v 1 ≤ 31) := by
  simp only [Option.isSome_iff_exists, conditionOf_eq_some_iff]
  constructor
  · rintro ⟨c, hc⟩
    cases c with
    | empty => exact .inl (spells_empty_iff.1 hc)
    | line n e =>
      obtain ⟨hkind, hline, hedge⟩ := spells_line_iff.1 hc
      exact .inr (.inl ⟨hkind, by omega, hedge ▸ e.code_bounds⟩)
    | counter n k limit =>
      obtain ⟨hkind, hcounter, hcompare, -⟩ := spells_counter_iff.1 hc
      exact .inr (.inr (.inl ⟨hkind, by omega, hcompare ▸ k.code_bounds⟩))
    | remote a =>
      obtain ⟨hkind, hstation⟩ := spells_remote_iff.1 hc
      exact .inr (.inr (.inr ⟨hkind, by have := a.isLt; omega⟩))
  · rintro (hkind | ⟨hkind, hline, hedge⟩ | ⟨hkind, hcounter, hcompare⟩ | ⟨hkind, hstation⟩)
    · exact ⟨.empty, spells_empty_iff.2 hkind⟩
    · obtain ⟨e, he⟩ := exists_edgeSelect_code hedge
      exact ⟨.line ⟨valueByte v 1, by omega⟩ e, spells_line_iff.2 ⟨hkind, rfl, he⟩⟩
    · obtain ⟨k, hk⟩ := exists_compare_code hcompare
      exact ⟨.counter ⟨valueByte v 1, by omega⟩ k (valueLimit v), spells_counter_iff.2 ⟨hkind, rfl, hk, rfl⟩⟩
    · exact ⟨.remote (BitVec.ofNat 5 (valueByte v 1)),
        spells_remote_iff.2 ⟨hkind, (Nat.mod_eq_of_lt (by omega)).symm⟩⟩

/-- Settles O53: an item takes the values that its coder takes. -/
theorem itemRanges : Obligations.ItemRanges := by
  intro x v n takes byte condition
  have hbyte (j : Nat) : byte j = valueByte v j := (valueByte_eq v j).symm
  have hcondition : (conditionOf v).isSome = true ↔ condition := by
    simp only [condition, hbyte]
    exact isSome_conditionOf
  have hnumber : valueNumber v = n := rfl
  simp [takes, Settings.write, hnumber, hcondition, isSome_bitRateOf, isSome_inRange, isSome_maskOf,
    isSome_attentionMaskOf, isSome_recordSettingOf, isSome_dirOf, isSome_enableOf, isSome_combinatorOf]

end Sys2Proof.Machine
end

section
/-! PROOFS. WRITE CONFIG and READ CONFIG: the identifiers, the value that an item holds and reads back, and the answers
(R119, R156, R157, R160, R176). -/

namespace Sys2Proof.Machine

open Sys2Proof.Machine.Claims

/-! ### Identifiers (R176) -/

theorem stationItem_eq_some_iff {index : Byte} {item i : Item} :
    stationItem index item = some i ↔ item = i ∧ index.toNat = 0 := by
  simp [stationItem, ← BitVec.toNat_inj, and_comm]

theorem lineIndex_eq_some_iff {index : Byte} {n : Fin 16} : lineIndex index = some n ↔ n.val = index.toNat := by
  unfold lineIndex
  split
  · rw [Option.some_inj, Fin.ext_iff, eq_comm]
  · exact iff_of_false nofun fun h => by omega

theorem unitIndex_eq_some_iff {index : Byte} {k : Fin 4} : unitIndex index = some k ↔ k.val = index.toNat := by
  unfold unitIndex
  split
  · rw [Option.some_inj, Fin.ext_iff, eq_comm]
  · exact iff_of_false nofun fun h => by omega

theorem stationItem_eq_none_iff {index : Byte} {item : Item} : stationItem index item = none ↔ index.toNat ≠ 0 := by
  simp [stationItem, ← BitVec.toNat_inj]

theorem lineIndex_eq_none_iff {index : Byte} : lineIndex index = none ↔ 15 < index.toNat := by
  unfold lineIndex
  split <;> simp <;> omega

theorem unitIndex_eq_none_iff {index : Byte} : unitIndex index = none ↔ 3 < index.toNat := by
  unfold unitIndex
  split <;> simp <;> omega

theorem identifier_of_itemOf {item index : Byte} {i : Item} (h : itemOf item index = some i) :
    identifier i = (item.toNat, index.toNat) := by
  unfold itemOf at h
  split at h <;>
    rename_i hcode <;>
    simp only [stationItem_eq_some_iff, Option.map_eq_some_iff, lineIndex_eq_some_iff, unitIndex_eq_some_iff,
      reduceCtorEq] at h <;>
    rw [hcode]
  case h_11 | h_12 | h_13 | h_14 | h_15 | h_16 | h_17 | h_18 | h_19 =>
    obtain ⟨_, hindex, rfl⟩ := h
    rw [identifier, hindex]
  all_goals
    obtain ⟨rfl, hindex⟩ := h
    rw [identifier, hindex]

theorem itemOf_of_identifier {item index : Byte} {i : Item} (h : identifier i = (item.toNat, index.toNat)) :
    itemOf item index = some i := by
  obtain ⟨hcode, hindex⟩ := Prod.mk.injEq .. ▸ h
  unfold itemOf
  cases i with
  | bitRate | beaconInterval | preCount | postCount | postTime | reserve | holdLimit | snapshotMask | resetMask
  | vetoMask | attentionMask =>
    rw [← hcode]
    exact stationItem_eq_some_iff.2 ⟨rfl, hindex.symm⟩
  | qualTime | recordSetting | countingEdge =>
    rw [← hcode]
    exact Option.map_eq_some_iff.2 ⟨_, lineIndex_eq_some_iff.2 hindex, rfl⟩
  | enable | condA | condB | combinator | window | count =>
    rw [← hcode]
    exact Option.map_eq_some_iff.2 ⟨_, unitIndex_eq_some_iff.2 hindex, rfl⟩

/-- The model's own identifier of an item is that of R176. -/
theorem identifier_eq (i : Item) : identifier i = (i.code.toNat, i.index.toNat) := by
  cases i with
  | bitRate | beaconInterval | preCount | postCount | postTime | reserve | holdLimit | snapshotMask | resetMask
  | vetoMask | attentionMask => rfl
  | qualTime n | recordSetting n | countingEdge n =>
    exact congrArg (Prod.mk _) (Nat.mod_eq_of_lt (show n.val < 256 by omega)).symm
  | enable k | condA k | condB k | combinator k | window k | count k =>
    exact congrArg (Prod.mk _) (Nat.mod_eq_of_lt (show k.val < 256 by omega)).symm

theorem itemOf_eq_none_iff {item index : Byte} : itemOf item index = none ↔
    item.toNat = 0 ∨ 20 < item.toNat ∨ ((item.toNat ≤ 10 ∨ item.toNat = 20) ∧ index.toNat ≠ 0) ∨
      (11 ≤ item.toNat ∧ item.toNat ≤ 13 ∧ 15 < index.toNat) ∨
      (14 ≤ item.toNat ∧ item.toNat ≤ 19 ∧ 3 < index.toNat) := by
  unfold itemOf
  split <;>
    simp only [stationItem_eq_none_iff, Option.map_eq_none_iff, lineIndex_eq_none_iff, unitIndex_eq_none_iff, true_iff]
  case h_21 =>
    simp only [imp_false] at *
    omega
  all_goals omega

/-! ### The value that an item holds (R156) -/

/-- Bytes 0 to 3 of a number's value are the number, whatever the free bytes are (R176, log 15). -/
theorem numberValue_eq {i : Item} {n : Nat} {v : BitVec 56} (h : n = v.toNat / 2 ^ 24) :
    (numberValue i n).toNat / 2 ^ 24 = v.toNat / 2 ^ 24 := by
  rw [numberValue, BitVec.toNat_ofNat]
  have hvalue := v.isLt
  have hfree := (Config.disregardedBytes i.code.toNat i.index.toNat).isLt
  omega

theorem conditionBytes_bytes {kind p q limit : Nat} (hkind : kind < 256) (hp : p < 256) (hq : q < 256)
    (hlimit : limit < 2 ^ 32) :
    valueByte (conditionBytes kind p q limit) 0 = kind ∧ valueByte (conditionBytes kind p q limit) 1 = p ∧
      valueByte (conditionBytes kind p q limit) 2 = q ∧
      valueLimit (conditionBytes kind p q limit) = BitVec.ofNat 32 limit := by
  have hbytes : (conditionBytes kind p q limit).toNat = kind * 2 ^ 48 + p * 2 ^ 40 + q * 2 ^ 32 + limit := by
    rw [conditionBytes, BitVec.toNat_ofNat]
    omega
  simp only [valueByte, valueLimit, ← BitVec.toNat_inj, BitVec.toNat_ofNat, hbytes]
  omega

/-- The bytes of a condition spell it (R160, R176). -/
theorem spells_value (c : Condition) : Spells c.value c := by
  cases c with
  | empty => rfl
  | line n e =>
    have he := e.code_bounds
    obtain ⟨hkind, hline, hedge, -⟩ := conditionBytes_bytes (kind := 1) (p := n.val) (q := e.code) (limit := 0)
      (by omega) (by omega) (by omega) (by omega)
    exact spells_line_iff.2 ⟨hkind, hline, hedge⟩
  | counter n k limit =>
    have hk := k.code_bounds
    obtain ⟨hkind, hcounter, hcompare, hlimit⟩ := conditionBytes_bytes (kind := 2) (p := n.val) (q := k.code)
      (limit := limit.toNat) (by omega) (by omega) (by omega) limit.isLt
    exact spells_counter_iff.2 ⟨hkind, hcounter, hcompare, hlimit.trans (by simp)⟩
  | remote a =>
    have ha := a.isLt
    obtain ⟨hkind, hstation, -, -⟩ := conditionBytes_bytes (kind := 3) (p := a.toNat) (q := 0) (limit := 0)
      (by omega) (by omega) (by omega) (by omega)
    exact spells_remote_iff.2 ⟨hkind, hstation⟩

theorem conditionOf_value_of_spells {v : BitVec 56} {c : Condition} (h : Spells v c) :
    conditionOf c.value = conditionOf v := by
  rw [conditionOf_eq_some_iff.2 h, conditionOf_eq_some_iff.2 (spells_value c)]

/-- READ CONFIG returns the value that an item holds (R160). -/
theorem sameValue_of_holdsValue {x : Settings} {v : BitVec 56} {i : Item} (h : HoldsValue x v i) :
    sameValue i (x.read i) v := by
  cases i with
  | condA | condB => exact conditionOf_value_of_spells h
  | beaconInterval | preCount | postCount | postTime | reserve | holdLimit | snapshotMask | resetMask | vetoMask
  | qualTime | window | count | attentionMask => exact numberValue_eq h
  | bitRate | recordSetting | countingEdge | enable | combinator => exact numberValue_eq h.symm

/-- A write that is taken puts into the item what the bytes say (R156, R176). -/
theorem Settings.holdsValue_write {x y : Settings} {i : Item} {v : BitVec 56} (h : x.write i v = some y) :
    HoldsValue y v i := by
  cases i with
  | beaconInterval | preCount | postCount | postTime | reserve | holdLimit =>
    obtain ⟨_, hy, rfl⟩ := Option.map_eq_some_iff.1 h
    exact (inRange_eq_some_iff.1 hy).1
  | bitRate =>
    obtain ⟨_, hy, rfl⟩ := Option.map_eq_some_iff.1 h
    exact bitRateOf_eq_some_iff.1 hy
  | snapshotMask | resetMask | vetoMask =>
    obtain ⟨_, hy, rfl⟩ := Option.map_eq_some_iff.1 h
    exact maskOf_eq_some_iff.1 hy
  | attentionMask =>
    obtain ⟨_, hy, rfl⟩ := Option.map_eq_some_iff.1 h
    exact attentionMaskOf_eq_some_iff.1 hy
  | qualTime n =>
    obtain ⟨_, hy, rfl⟩ := Option.map_eq_some_iff.1 h
    simp only [HoldsValue, Fin.getElem_fin, Vector.getElem_set_self]
    exact (inRange_eq_some_iff.1 hy).1
  | recordSetting n =>
    obtain ⟨_, hy, rfl⟩ := Option.map_eq_some_iff.1 h
    simp only [HoldsValue, Fin.getElem_fin, Vector.getElem_set_self]
    exact recordSettingOf_eq_some_iff.1 hy
  | countingEdge n =>
    obtain ⟨_, hy, rfl⟩ := Option.map_eq_some_iff.1 h
    simp only [HoldsValue, Fin.getElem_fin, Vector.getElem_set_self]
    exact dirOf_eq_some_iff.1 hy
  | enable k =>
    obtain ⟨_, hy, rfl⟩ := Option.map_eq_some_iff.1 h
    simp only [HoldsValue, Settings.mapUnit, Fin.getElem_fin, Vector.getElem_set_self]
    exact enableOf_eq_some_iff.1 hy
  | condA k | condB k =>
    obtain ⟨_, hy, rfl⟩ := Option.map_eq_some_iff.1 h
    simp only [HoldsValue, Settings.mapUnit, Fin.getElem_fin, Vector.getElem_set_self]
    exact conditionOf_eq_some_iff.1 hy
  | combinator k =>
    obtain ⟨_, hy, rfl⟩ := Option.map_eq_some_iff.1 h
    simp only [HoldsValue, Settings.mapUnit, Fin.getElem_fin, Vector.getElem_set_self]
    exact combinatorOf_eq_some_iff.1 hy
  | window k | count k =>
    obtain ⟨_, hy, rfl⟩ := Option.map_eq_some_iff.1 h
    simp only [HoldsValue, Settings.mapUnit, Fin.getElem_fin, Vector.getElem_set_self]
    exact (inRange_eq_some_iff.1 hy).1

/-- A write leaves every other item (R156). -/
theorem Settings.read_write_of_ne {x y : Settings} {i j : Item} {v : BitVec 56} (h : x.write i v = some y)
    (hj : j ≠ i) : y.read j = x.read j := by
  cases i with
  | bitRate | beaconInterval | preCount | postCount | postTime | reserve | holdLimit | snapshotMask | resetMask
  | vetoMask | attentionMask =>
    obtain ⟨_, -, rfl⟩ := Option.map_eq_some_iff.1 h
    cases j <;> try exact absurd rfl hj
    all_goals rfl
  | qualTime n | recordSetting n | countingEdge n =>
    obtain ⟨_, -, rfl⟩ := Option.map_eq_some_iff.1 h
    cases j <;> grind [Settings.read]
  | enable k | condA k | condB k | combinator k | window k | count k =>
    obtain ⟨_, -, rfl⟩ := Option.map_eq_some_iff.1 h
    cases j <;> grind [Settings.read, Settings.mapUnit]

/-! ### The answers (R156, R160) -/

section
variable {item index : Byte} {v : BitVec 56} {s : State} {i : Item} {x : Settings}

theorem exec_writeConfig_of_closed (hs : Listens s) (hw : s.config.window = .closed) :
    exec (.writeConfig item index v) s = .next (s.answer { result := .closed, body := .empty }) := by
  show execWriteConfig item index v s = _
  simp [execWriteConfig, transact_of_listens hs, hw, State.result]

theorem exec_writeConfig_of_noItem (hs : Listens s) (hw : s.config.window = .isOpen) (hi : itemOf item index = none) :
    exec (.writeConfig item index v) s = .next (s.answer { result := .range, body := .empty }) := by
  show execWriteConfig item index v s = _
  simp [execWriteConfig, transact_of_listens hs, hw, hi, State.result]

theorem exec_writeConfig_of_refused (hs : Listens s) (hw : s.config.window = .isOpen)
    (hi : itemOf item index = some i) (hx : s.config.items.write i v = none) :
    exec (.writeConfig item index v) s = .next (s.answer { result := .range, body := .empty }) := by
  show execWriteConfig item index v s = _
  simp [execWriteConfig, transact_of_listens hs, hw, hi, hx, State.result]

theorem exec_writeConfig_of_taken (hs : Listens s) (hw : s.config.window = .isOpen)
    (hi : itemOf item index = some i) (hx : s.config.items.write i v = some x) :
    exec (.writeConfig item index v) s = .next ((applyWrite i x s).answer { result := .ok, body := .empty }) := by
  show execWriteConfig item index v s = _
  simp [execWriteConfig, transact_of_listens hs, hw, hi, hx, State.result]

theorem exec_readConfig_of_noItem (hs : Listens s) (hi : itemOf item index = none) :
    exec (.readConfig item index) s = .next (s.answer { result := .range, body := .empty }) := by
  show execReadConfig item index s = _
  simp [execReadConfig, transact_of_listens hs, hi, State.result]

theorem exec_readConfig_of_item (hs : Listens s) (hi : itemOf item index = some i) :
    exec (.readConfig item index) s =
      .next (s.answer { result := .ok, body := .config item index (s.config.items.read i) }) := by
  show execReadConfig item index s = _
  simp [execReadConfig, transact_of_listens hs, hi]

/-- A write of any item but the reserve level changes the items alone (R157). -/
theorem applyWrite_of_ne_reserve (hi : i ≠ .reserve) :
    applyWrite i x s = { s with config := { s.config with items := x } } :=
  if_neg hi

/-- A write of the reserve level evaluates BUSY; in CONFIG no beacon is requested (R78, R119, R121). -/
theorem applyWrite_reserve_of_config (hm : s.station.mode = .config) :
    let c : Configuration := { s.config with items := x }
    let busy := ({ s with config := c } : State).busyByCounts
    applyWrite .reserve x s = { s with
      config := c
      ctrl := { s.ctrl with
        ownBusy := busy
        groupBusy := if busy = s.ctrl.ownBusy then s.ctrl.groupBusy else busy || s.peersBusy } } := by
  intro c busy
  rw [applyWrite_of_config hm, if_pos rfl, updateBusy_eq]
  have hquiet : (s.setConfig c).station.mode.transmits = false := by
    rw [State.setConfig_station, hm]
    rfl
  rw [hquiet]
  simp only [Bool.false_eq_true, if_false, ite_self]
  rfl

end

/-- Settles O54: the identifiers, then the answers in the order of the checks of R156. -/
theorem configReadsBackWhatWasWritten : Obligations.ConfigReadsBackWhatWasWritten := by
  refine ⟨fun _ _ _ => ⟨identifier_of_itemOf, itemOf_of_identifier⟩,
    fun i => itemOf_of_identifier (identifier_eq i), fun _ _ => itemOf_eq_none_iff, fun item index v s hs => ?_⟩
  refine ⟨exec_writeConfig_of_closed hs, exec_writeConfig_of_noItem hs, exec_readConfig_of_noItem hs, fun i hi => ?_⟩
  refine ⟨exec_readConfig_of_item hs hi, fun hw => exec_writeConfig_of_refused hs hw hi, fun x hw hx => ?_⟩
  have hholds := Settings.holdsValue_write hx
  refine ⟨hholds, sameValue_of_holdsValue hholds, fun j => Settings.read_write_of_ne hx, fun hne => ?_, ?_⟩
  · rw [exec_writeConfig_of_taken hs hw hi hx, applyWrite_of_ne_reserve hne]
  · rintro rfl hm -
    rw [exec_writeConfig_of_taken hs hw hi hx, applyWrite_reserve_of_config hm]

end Sys2Proof.Machine
end

section
/-! PROOFS. Every command answers a next state with the queue that it found (R162, log 29). -/

namespace Sys2Proof.Machine

/-! ### What leaves the queue as it is -/

@[simp] theorem write_pending (bs : List RecordBody) (s : State) : (write bs s).pending = s.pending :=
  (captureFrame_write bs s).pending

@[simp] theorem suppress_pending (f : SuppressedFlag) (cs : List OwnCause) (s : State) :
    (suppress f cs s).pending = s.pending := (captureFrame_suppress f cs s).pending

@[simp] theorem closeEpisode_pending (e : EndStatus) (s : State) : (closeEpisode e s).pending = s.pending :=
  (captureFrame_closeEpisode e s).pending

@[simp] theorem evaluateBusy_pending (s : State) : (evaluateBusy s).pending = s.pending :=
  (captureFrame_evaluateBusy s).pending

@[simp] theorem evaluateGroupBusy_pending (s : State) : (evaluateGroupBusy s).pending = s.pending :=
  (captureFrame_evaluateGroupBusy s).pending

@[simp] theorem request_pending (c : OwnCause) (t : Time) (s : State) : (request c t s).1.pending = s.pending :=
  (captureFrame_request c t s).pending

@[simp] theorem controllerTrigger_pending (m : TriggerMessage) (s : State) :
    (controllerTrigger m s).pending = s.pending := (captureFrame_controllerTrigger m s).pending

@[simp] theorem beaconNumber_pending (h : Word32) (s : State) : (beaconNumber h s).pending = s.pending :=
  (captureFrame_beaconNumber h s).pending

@[simp] theorem settle_pending (s : State) : (settle s).pending = s.pending := (unitsFrame_settle s).pending

@[simp] theorem expireWindow_pending (k : Fin 4) (u : ArmedUnit) (s : State) :
    (expireWindow k u s).pending = s.pending := (unitsFrame_expireWindow k u s).pending

@[simp] theorem setLocalHold_pending (v : Bool) (s : State) : (setLocalHold v s).pending = s.pending :=
  (holdFrame_setLocalHold v s).pending

@[simp] theorem setGroupHold_pending (v : Bool) (s : State) : (setGroupHold v s).pending = s.pending :=
  (holdFrame_setGroupHold v s).pending

@[simp] theorem handOnHoldMark_pending (s : State) : (handOnHoldMark s).pending = s.pending :=
  (handOnHoldMark_holdFrame s).pending

@[simp] theorem clearCounters_pending (mask : Mask) (s : State) : (clearCounters mask s).pending = s.pending := by
  rw [clearCounters_eq]

@[simp] theorem armUnits_pending (s : State) : (armUnits s).pending = s.pending := rfl

@[simp] theorem answer_pending (s : State) (r : Response) : (s.answer r).pending = s.pending := rfl

@[simp] theorem result_pending (s : State) (r : Result) : (s.result r).pending = s.pending := rfl

@[simp] theorem endTransaction_pending (s : State) : s.endTransaction.pending = s.pending := rfl

/-! ### Event lines and VETO -/

@[simp] theorem qualifyLine_pending (n : Fin 16) (l : Level) (s : State) :
    (qualifyLine n l s).pending = s.pending := by
  unfold qualifyLine
  dsimp only
  split
  · rfl
  · exact write_pending _ _

@[simp] theorem moveLine_pending (n : Fin 16) (l : Level) (s : State) : (moveLine n l s).pending = s.pending := by
  unfold moveLine
  dsimp only
  split
  · split
    · rfl
    · split
      · exact qualifyLine_pending n l s
      · rfl
  · split <;> rfl

@[simp] theorem qualifyVeto_pending (l : Level) (s : State) : (qualifyVeto l s).pending = s.pending :=
  write_pending _ _

@[simp] theorem moveVeto_pending (l : Level) (s : State) : (moveVeto l s).pending = s.pending := by
  unfold moveVeto
  dsimp only
  split <;> split <;> rfl

/-! ### Peers, time and the held trigger register -/

@[simp] theorem hearPeer_pending (a : Address) (s : State) : (hearPeer a s).pending = s.pending := by
  unfold hearPeer
  dsimp only
  split
  · rfl
  · rfl
  · exact write_pending _ _

@[simp] theorem noteBeacon_pending (entry : PeerEntry) (m : BeaconMessage) (s : State) :
    (noteBeacon entry m s).pending = s.pending := by
  unfold noteBeacon
  dsimp only
  split
  · rfl
  · split
    · rfl
    · exact write_pending _ _

@[simp] theorem stepTime_pending (a : Address) (l x : Time) (s : State) :
    (stepTime a l x s).pending = s.pending := by
  unfold stepTime
  dsimp only
  split
  · rfl
  · exact (write_pending _ _).trans (captureFrame_mapHeader _ _).pending

@[simp] theorem handleBeacon_pending (m : BeaconMessage) (l : Time) (s : State) :
    (handleBeacon m l s).pending = s.pending := by
  simp [handleBeacon, markHold_eq]

@[simp] theorem losePeer_pending (a : Address) (s : State) : (losePeer a s).pending = s.pending := by
  simp [losePeer]

@[simp] theorem expireRegister_pending (s : State) : (expireRegister s).pending = s.pending := by
  unfold expireRegister
  split
  · rfl
  · exact suppress_pending _ _ _

/-! ### Station states and attempts -/

@[simp] theorem enterRollCall_pending (s : State) : (enterRollCall s).pending = s.pending := by
  rw [enterRollCall_eq]

@[simp] theorem enterMute_pending (r : MuteReason) (s : State) : (enterMute r s).pending = s.pending := by
  unfold enterMute
  dsimp only
  rw [(captureFrame_claimOvertakenByMute _).pending]
  split <;> split <;> simp

@[simp] theorem enterByAddress_pending (s : State) : (enterByAddress s).pending = s.pending := by
  unfold enterByAddress
  split
  · exact enterMute_pending _ s
  · exact enterRollCall_pending s

@[simp] theorem endRollCall_pending (s : State) : (endRollCall s).pending = s.pending := by
  refine (captureFrame_examineRegister _).pending.trans ?_
  simp

@[simp] theorem takeOwnAddress_pending (s : State) : (takeOwnAddress s).pending = s.pending := by
  unfold takeOwnAddress
  split
  · exact enterMute_pending _ s
  · rfl

@[simp] theorem failAttempt_pending (s : State) : (failAttempt s).pending = s.pending := by
  unfold failAttempt
  dsimp only
  split
  · exact enterMute_pending _ _
  · rfl

@[simp] theorem applyCommand_pending (c : GroupCommand) (mask : Mask) (s : State) :
    (applyCommand c mask s).pending = s.pending := by
  cases c with
  | clearCounters => exact clearCounters_pending mask s
  | hold => exact setGroupHold_pending true s
  | resume =>
    refine (setGroupHold_pending false _).trans ?_
    split <;> rfl

@[simp] theorem reportSuccess_pending (a : Attempt) (s : State) : (reportSuccess a s).pending = s.pending := by
  unfold reportSuccess
  split
  · split
    · rfl
    · exact (captureFrame_announceClaim s).pending
  · exact applyCommand_pending _ _ s
  · rfl

/-! ### Restarts and configuration -/

@[simp] theorem hardRestart_pending (sa : Address) (s : State) : (hardRestart sa s).pending = s.pending := by
  rw [hardRestart_eq]
  rfl

@[simp] theorem softRestart_pending (sa : Address) (s : State) : (softRestart sa s).pending = s.pending := by
  rw [softRestart_eq, enterByAddress_pending]
  rfl

@[simp] theorem applyWrite_pending (i : Item) (x : Settings) (s : State) :
    (applyWrite i x s).pending = s.pending := by
  unfold applyWrite
  dsimp only
  split
  · exact evaluateBusy_pending _
  · rfl

@[simp] theorem closeWindow_pending (s : State) : (closeWindow s).pending = s.pending :=
  enterByAddress_pending _

@[simp] theorem releaseSlot_pending (i : Fin 8) (e : Episode) (s : State) :
    (releaseSlot i e s).pending = s.pending := evaluateBusy_pending _

@[simp] theorem rejoinGroup_pending (s : State) : (rejoinGroup s).pending = s.pending := enterRollCall_pending _

/-! ### What a command answers -/

/-- The outcome is a next state, whose queue is that of `s`. -/
def GoesOn (s : State) (o : Host.Outcome State Fault Refusal) : Prop :=
  ∃ t, o = .next t ∧ t.pending = s.pending

theorem goesOn_next {s t : State} (h : t.pending = s.pending) : GoesOn s (.next t) := ⟨t, rfl, h⟩

/-- An event that happens under a condition, and otherwise leaves the state as it is. -/
theorem goesOn_if {c : Prop} [Decidable c] {s t : State} (h : t.pending = s.pending) :
    GoesOn s (if c then .next t else .next s) := by
  split
  · exact goesOn_next h
  · exact goesOn_next rfl

/-- A transaction is taken or discarded (R161). -/
theorem goesOn_transact {f : State → State} {s : State} (h : (f s).pending = s.pending) :
    GoesOn s (transact f s) := by
  rw [transact_eq]
  split
  · exact goesOn_next h
  · exact goesOn_next rfl

/-- A message goes to its owner, or is discarded (R68 to R70). -/
theorem goesOn_dispatch {fieldsValid : Bool} {a : Address} {owner : State → State} {s : State}
    (h : ∀ u, (owner u).pending = u.pending) : GoesOn s (dispatch fieldsValid a owner s) := by
  unfold dispatch
  dsimp only
  split
  · split
    · exact goesOn_next rfl
    · split
      · exact goesOn_next (by simp)
      · exact goesOn_next (by simp [h])
  · exact goesOn_next rfl

/-! ### Commands with cases of their own -/

theorem goesOn_linePinChange (n : Fin 16) (l : Level) (s : State) : GoesOn s (execLinePinChange n l s) := by
  unfold execLinePinChange
  split
  · exact goesOn_next rfl
  · split
    · exact goesOn_next (by simp)
    · exact goesOn_next rfl

theorem goesOn_vetoPinChange (l : Level) (s : State) : GoesOn s (execVetoPinChange l s) := by
  unfold execVetoPinChange
  split
  · exact goesOn_next rfl
  · split
    · exact goesOn_next (moveVeto_pending l s)
    · exact goesOn_next rfl

theorem goesOn_windowExpiry (k : Fin 4) (s : State) : GoesOn s (execWindowExpiry k s) := by
  unfold execWindowExpiry
  split
  · split
    · exact goesOn_next rfl
    · exact goesOn_next (by simp)
  · exact goesOn_next rfl

theorem goesOn_attemptStart (s : State) : GoesOn s (execAttemptStart s) := by
  unfold execAttemptStart
  split <;> exact goesOn_next rfl

theorem goesOn_attemptFailure (e : BitError) (s : State) : GoesOn s (execAttemptFailure e s) := by
  unfold execAttemptFailure
  dsimp only
  split
  · split <;> exact goesOn_next (by simp)
  · exact goesOn_next rfl

theorem goesOn_attemptSuccess (s : State) : GoesOn s (execAttemptSuccess s) := by
  unfold execAttemptSuccess
  split
  · exact goesOn_next rfl
  · exact goesOn_if (by simp)

theorem goesOn_triggerReceived (m : TriggerMessage) (s : State) : GoesOn s (execTriggerReceived m s) :=
  goesOn_dispatch fun u => by simp

/-- A group command of a peer (R70, R134). -/
theorem goesOn_groupCommand (a : Address) (c : GroupCommand) (mask : Mask) (s : State) :
    GoesOn s (dispatch true a (fun u => applyCommand c mask (hearPeer a u)) s) :=
  goesOn_dispatch fun u => by simp

theorem goesOn_powerRestart (sa : Address) (s : State) : GoesOn s (execPowerRestart sa s) := by
  unfold execPowerRestart
  split <;> exact goesOn_next rfl

theorem goesOn_resetLow (s : State) : GoesOn s (execResetLow s) := by
  unfold execResetLow
  split <;> exact goesOn_next rfl

theorem goesOn_hardRestart (sa : Address) (s : State) : GoesOn s (execHardRestart sa s) := by
  unfold execHardRestart
  split
  · split
    · exact goesOn_next rfl
    · exact goesOn_next (hardRestart_pending sa s)
  · exact goesOn_next rfl

theorem goesOn_writeConfig (item index : Byte) (value : BitVec 56) (s : State) :
    GoesOn s (execWriteConfig item index value s) := by
  apply goesOn_transact
  split
  · rfl
  · split
    · rfl
    · split
      · rfl
      · exact applyWrite_pending _ _ s

theorem goesOn_closeConfig (s : State) : GoesOn s (execCloseConfig s) := by
  apply goesOn_transact
  split
  · rfl
  · split
    · rfl
    · exact closeWindow_pending s

theorem goesOn_readPeer (a : Byte) (s : State) : GoesOn s (execReadPeer a s) := by
  apply goesOn_transact
  dsimp only
  split
  · rfl
  · split <;> rfl

theorem goesOn_releaseEpisode (slot : Byte) (s : State) : GoesOn s (execReleaseEpisode slot s) := by
  apply goesOn_transact
  split
  · rfl
  · split
    · rfl
    · rfl
    · simp

theorem goesOn_softwareTrigger (s : State) : GoesOn s (execSoftwareTrigger s) := by
  have hrequest := request_pending .software s.time.group s
  apply goesOn_transact
  split
  · rfl
  · rename_i heq
    rw [heq] at hrequest
    exact (settle_pending _).trans hrequest

theorem goesOn_closeEpisode (s : State) : GoesOn s (execCloseEpisode s) := by
  apply goesOn_transact
  split
  · rfl
  · split
    · simp
    · rfl

theorem goesOn_setLocalHold (v : Byte) (s : State) : GoesOn s (execSetLocalHold v s) := by
  apply goesOn_transact
  split
  · simp
  · rfl

theorem goesOn_sendGroupCommand (code : Byte) (mask : Mask) (s : State) :
    GoesOn s (execSendGroupCommand code mask s) := by
  apply goesOn_transact
  split
  · rfl
  · split
    · rfl
    · split <;> rfl

theorem goesOn_rejoin (s : State) : GoesOn s (execRejoin s) := by
  apply goesOn_transact
  split
  · exact rejoinGroup_pending s
  · rfl

theorem goesOn_restart (sa : Address) (s : State) : GoesOn s (execRestart sa s) := by
  apply goesOn_transact
  split
  · rfl
  · exact softRestart_pending sa s

/-! ### The statement -/

/-- Settles O2: each command by the state that it answers, and by what that state's operations leave of the queue. -/
theorem everyCommandAnswersNextState : Obligations.EveryCommandAnswersNextState := by
  intro c s
  show GoesOn s (exec c s)
  cases c with
  | linePinChange n l => exact goesOn_linePinChange n l s
  | vetoPinChange l => exact goesOn_vetoPinChange l s
  | windowExpiry k => exact goesOn_windowExpiry k s
  | attemptStart => exact goesOn_attemptStart s
  | attemptFailure e => exact goesOn_attemptFailure e s
  | attemptSuccess => exact goesOn_attemptSuccess s
  | qualificationTimerExpiry | vetoQualificationExpiry | postTimeExpiry | holdLimitExpiry | ownAddressMessage
  | silenceTimerExpiry | rollCallExpiry | beaconTimerExpiry => exact goesOn_if (by simp)
  | lineFree | arbitrationLoss | messageAbandon | messageInvalid | groupTimeLimit | startBitReceived =>
    exact goesOn_if rfl
  | triggerReceived m => exact goesOn_triggerReceived m s
  | beaconReceived m => exact goesOn_dispatch (handleBeacon_pending m _)
  | clearCountersReceived a mask => exact goesOn_groupCommand a .clearCounters mask s
  | holdReceived a => exact goesOn_groupCommand a .hold 0#16 s
  | resumeReceived a => exact goesOn_groupCommand a .resume 0#16 s
  | powerRestart sa => exact goesOn_powerRestart sa s
  | supplyLoss => exact goesOn_next rfl
  | resetLow => exact goesOn_resetLow s
  | hardRestart sa => exact goesOn_hardRestart sa s
  | writeConfig item index value => exact goesOn_writeConfig item index value s
  | closeConfig => exact goesOn_closeConfig s
  | readPeer a => exact goesOn_readPeer a s
  | releaseEpisode slot => exact goesOn_releaseEpisode slot s
  | softwareTrigger => exact goesOn_softwareTrigger s
  | closeEpisode => exact goesOn_closeEpisode s
  | setLocalHold v => exact goesOn_setLocalHold v s
  | sendGroupCommand code mask => exact goesOn_sendGroupCommand code mask s
  | rejoin => exact goesOn_rejoin s
  | restart sa => exact goesOn_restart sa s
  | readConfig | readHistoryNext | readRecords =>
    apply goesOn_transact
    split <;> rfl
  | status | readCounters | readHistory | listEpisodes | selectEpisode | readHeader | ackAttention | shortTransaction
  | unknownCommand =>
    apply goesOn_transact
    rfl

end Sys2Proof.Machine
end

section
/-! PROOFS. READ PEER: the checks of its address, and the time since last heard (R165). -/

namespace Sys2Proof.Machine

open Sys2Proof.Machine.Claims

/-- However a time is rounded, it is held at 65,535 ms, and below that it is less than 1 ms off (R165, log 14). -/
theorem sinceHeardMs_bounds (us : Nat) :
    sinceHeardMs us ≤ 65535 ∧ (65536000 ≤ us → sinceHeardMs us = 65535) ∧
      (us ≤ 65535000 → 1000 * sinceHeardMs us < us + 1000 ∧ us < 1000 * sinceHeardMs us + 1000) := by
  have hround : (Config.roundsUp us).toNat ≤ 1 := Bool.toNat_le _
  unfold sinceHeardMs
  generalize (Config.roundsUp us).toNat = r at hround
  split <;> omega

section

variable {a : Byte} {p : Address} {s : State}

theorem exec_readPeer_of_range (hs : Listens s) (ha : a = 0#8 ∨ 31 < a.toNat) :
    exec (.readPeer a) s = .next (s.answer { result := .range, body := .empty }) := by
  have hrange : a.toNat = 0 ∨ 31 < a.toNat := ha.imp_left fun h => by rw [h]; rfl
  show execReadPeer a s = _
  rw [execReadPeer, transact_of_listens hs, if_pos hrange]
  rfl

/-- An address of a peer is in range, and is the one that the byte names (R165). -/
theorem exec_readPeer_of_address (hs : Listens s) (hp : p ≠ 0#5) :
    exec (.readPeer (p.setWidth 8)) s = .next (if p = s.station.address then s.result .notFound
      else s.answer { result := .ok, body := .peer (peerReport (s.peer p) s.now) }) := by
  have hbyte : (p.setWidth 8).toNat = p.toNat := BitVec.toNat_setWidth_of_le (by decide)
  have hpos : p.toNat ≠ 0 := fun h => hp (BitVec.eq_of_toNat_eq h)
  have hrange : ¬ (p.toNat = 0 ∨ 31 < p.toNat) := by omega
  show execReadPeer (p.setWidth 8) s = _
  rw [execReadPeer, transact_of_listens hs, hbyte, if_neg hrange, BitVec.ofNat_toNat, BitVec.setWidth_eq]

end

/-- Settles O52: the two refusals, and the report of the entry with its time rounded. -/
theorem readPeerReportsTheEntry : Obligations.ReadPeerReportsTheEntry := by
  refine fun a s hs => ⟨exec_readPeer_of_range hs, fun p hp ha hown => ?_, fun p hp ha hpeer => ?_⟩
  · rw [ha, exec_readPeer_of_address hs hp, if_pos hown]
    rfl
  · refine ⟨peerReport (s.peer p) s.now, ?_, rfl, Option.map_eq_none_iff, fun x y hx hy => ?_⟩
    · rw [ha, exec_readPeer_of_address hs hp, if_neg hpeer]
    · have hrounded : sinceHeardMs (s.now - y) = x := by simpa [peerReport, hy] using hx
      rw [← hrounded]
      exact sinceHeardMs_bounds _

end Sys2Proof.Machine
end

section
/-! PROOFS. ACK ATTENTION, and the outputs ATTN and OPEN (R170 to R172). -/

namespace Sys2Proof.Machine

open Sys2Proof.Machine.Claims

theorem exec_ackAttention {mask : Byte} {s : State} (hs : Listens s) :
    exec (.ackAttention mask) s =
      .next ((s.setPort { s.port with attention := s.port.attention &&& ~~~(mask.setWidth 6) }).answer
        { result := .ok
          body := .acknowledged s.port.attention (s.port.attention &&& ~~~(mask.setWidth 6)) }) := by
  show execAckAttention mask s = _
  rw [execAckAttention, transact_of_listens hs]

/-- A flag stays where it is set and the mask does not name it (R170). -/
theorem getLsbD_acknowledged (flags : BitVec 6) (mask : Byte) {b : Nat} (hb : b < 6) :
    (flags &&& ~~~(mask.setWidth 6)).getLsbD b = (flags.getLsbD b && !mask.getLsbD b) := by
  simp [hb]

/-- The bits of a set of flags are those of the six flags (R169, R176). -/
theorem Attention.exists_index {b : Nat} (hb : b < 6) : ∃ f : Attention, f.index = b := by
  have hcodes : ∀ i : Fin 6, ∃ f ∈ [Attention.closed, .suppressed, .peer, .hold, .muted, .restarted],
      f.index = i.val := by decide
  obtain ⟨f, -, hf⟩ := hcodes ⟨b, hb⟩
  exact ⟨f, hf⟩

/-- A set of flags is not empty where it holds a flag. -/
theorem ne_zero_iff_exists_flag (x : BitVec 6) : x ≠ 0#6 ↔ ∃ f : Attention, x.getLsbD f.index = true := by
  constructor
  · refine fun hne => by_contra fun hnone => hne (BitVec.eq_of_getLsbD_eq fun b hb => ?_)
    obtain ⟨f, rfl⟩ := Attention.exists_index hb
    rw [BitVec.getLsbD_zero]
    exact Bool.eq_false_iff.2 fun hset => hnone ⟨f, hset⟩
  · rintro ⟨f, hf⟩ rfl
    simp at hf

/-- ATTN is pulled low by a set flag that the mask admits (R171). -/
theorem attnPin_eq_low_iff (s : State) : s.attnPin = .low ↔
    s.running = true ∧ ∃ f : Attention, s.flagged f = true ∧ s.config.items.attentionMask.getLsbD f.index = true := by
  have hadmitted := ne_zero_iff_exists_flag (s.port.attention &&& s.config.items.attentionMask)
  simp only [BitVec.getLsbD_and, Bool.and_eq_true] at hadmitted
  unfold State.attnPin State.flagged
  rw [← hadmitted]
  simp

theorem openPin_eq_high_iff (s : State) : s.openPin = .high ↔ s.running = true ∧ s.ctrl.current ≠ none := by
  simp [State.openPin, Option.isSome_iff_ne_none]

/-- Settles O59: the codes of the flags, the acknowledgement bit by bit, and the two outputs. -/
theorem attentionIsAcknowledgedAndShown : Obligations.AttentionIsAcknowledgedAndShown :=
  ⟨by decide, fun mask _ hs => ⟨_, exec_ackAttention hs, fun _ => getLsbD_acknowledged _ mask⟩,
    attnPin_eq_low_iff, openPin_eq_high_iff⟩

end Sys2Proof.Machine
end

section
/-! PROOFS. Numbers and their bytes, and the numbers in a run of fields (Chapter 11, R175, R176). -/

namespace Sys2Proof

/-! ### Numbers and their bytes -/

@[simp] theorem bytesOfNat_length (k n : Nat) : (bytesOfNat k n).length = k := by
  induction k generalizing n with
  | zero => rfl
  | succ k ih => rw [bytesOfNat, List.length_append, ih, List.length_singleton]

theorem natOfBytes_concat (bs : List Byte) (b : Byte) : natOfBytes (bs ++ [b]) = natOfBytes bs * 256 + b.toNat := by
  rw [natOfBytes, List.foldl_append]
  rfl

theorem div_256_lt {n k : Nat} (h : n < 256 ^ (k + 1)) : n / 256 < 256 ^ k :=
  Nat.div_lt_of_lt_mul (by rwa [Nat.pow_succ, Nat.mul_comm] at h)

/-- A number is read back from its bytes, where they are enough for it. -/
theorem natOfBytes_bytesOfNat {k n : Nat} (h : n < 256 ^ k) : natOfBytes (bytesOfNat k n) = n := by
  induction k generalizing n with
  | zero =>
    rw [Nat.pow_zero, Nat.lt_one_iff] at h
    rw [h]
    rfl
  | succ k ih =>
    rw [bytesOfNat, natOfBytes_concat, ih (div_256_lt h), BitVec.toNat_ofNat]
    exact Nat.div_add_mod' n 256

/-- The bytes of a number are those of its high part and then those of its low part. -/
theorem bytesOfNat_add (m n x : Nat) {y : Nat} (hy : y < 256 ^ n) :
    bytesOfNat (m + n) (256 ^ n * x + y) = bytesOfNat m x ++ bytesOfNat n y := by
  induction n generalizing y with
  | zero =>
    rw [Nat.pow_zero, Nat.lt_one_iff] at hy
    simp [hy, bytesOfNat]
  | succ n ih =>
    have hshift : 256 ^ (n + 1) * x + y = 256 * (256 ^ n * x) + y := by ring
    have hdiv : (256 ^ (n + 1) * x + y) / 256 = 256 ^ n * x + y / 256 := by omega
    have hlast : BitVec.ofNat 8 (256 ^ (n + 1) * x + y) = BitVec.ofNat 8 y := by
      apply BitVec.eq_of_toNat_eq
      rw [hshift, BitVec.toNat_ofNat, BitVec.toNat_ofNat]
      omega
    rw [← Nat.add_assoc, bytesOfNat, hdiv, ih (div_256_lt hy), hlast, bytesOfNat, List.append_assoc]

end Sys2Proof

namespace Sys2Proof.Machine

open Sys2Proof.Machine.Claims

/-! ### Parts of a run of bytes -/

/-- The bytes `part` stand in `b` from byte `start` on. -/
def Stands (part b : List Byte) (start : Nat) : Prop :=
  ∃ pre post, b = pre ++ (part ++ post) ∧ pre.length = start

theorem Stands.self (b : List Byte) : Stands b b 0 := ⟨[], [], by simp, rfl⟩

theorem Stands.left {c d b : List Byte} {start : Nat} (h : Stands (c ++ d) b start) : Stands c b start := by
  obtain ⟨pre, post, rfl, hpre⟩ := h
  exact ⟨pre, d ++ post, by rw [List.append_assoc], hpre⟩

theorem Stands.right {c d b : List Byte} {start : Nat} (h : Stands (c ++ d) b start) :
    Stands d b (start + c.length) := by
  obtain ⟨pre, post, rfl, rfl⟩ := h
  exact ⟨pre ++ c, post, by simp, List.length_append⟩

theorem Stands.trans {c d b : List Byte} {i start : Nat} (h : Stands c d i) (k : Stands d b start) :
    Stands c b (start + i) := by
  obtain ⟨pre, post, rfl, rfl⟩ := h
  exact k.right.left

/-- A field that holds a part reads its number. -/
theorem Stands.field {part b : List Byte} {start len : Nat} (h : Stands part b start) (hlen : part.length = len) :
    field b start len = natOfBytes part := by
  obtain ⟨pre, post, rfl, rfl⟩ := h
  rw [Claims.field, List.drop_left, ← hlen, List.take_left]

theorem Stands.field_bytesOfNat {b : List Byte} {start w v : Nat} (h : Stands (bytesOfNat w v) b start)
    (hv : v < 256 ^ w) : Claims.field b start w = v := by
  rw [h.field (bytesOfNat_length w v), natOfBytes_bytesOfNat hv]

/-! ### Runs of numbers -/

/-- The bytes of numbers one after the other, each with its width in bytes before it. -/
def spell (l : List (Nat × Nat)) : List Byte :=
  l.flatMap fun p => bytesOfNat p.1 p.2

/-- Every number of the run goes into its width. -/
def Fits (l : List (Nat × Nat)) : Prop :=
  ∀ p ∈ l, p.2 < 256 ^ p.1

theorem fits_nil : Fits [] := nofun

theorem fits_cons {w v : Nat} {l : List (Nat × Nat)} : Fits ((w, v) :: l) ↔ v < 256 ^ w ∧ Fits l :=
  List.forall_mem_cons

/-- The fields of `b` from byte `start` on, one after the other, hold the numbers of the run. -/
def Reads (b : List Byte) : Nat → List (Nat × Nat) → Prop
  | _, [] => True
  | start, (w, v) :: l => field b start w = v ∧ Reads b (start + w) l

theorem spell_length (l : List (Nat × Nat)) : (spell l).length = (l.map Prod.fst).sum := by
  simp [spell, List.length_flatMap]

/-- A run of numbers is read back from its bytes. -/
theorem Stands.reads {l : List (Nat × Nat)} {b : List Byte} {start : Nat} (h : Stands (spell l) b start)
    (hfits : Fits l) : Reads b start l := by
  induction l generalizing start with
  | nil => trivial
  | cons p l ih =>
    obtain ⟨w, v⟩ := p
    obtain ⟨hv, hl⟩ := fits_cons.1 hfits
    have hrest := Stands.right (c := bytesOfNat w v) (d := spell l) h
    rw [bytesOfNat_length] at hrest
    exact ⟨(Stands.left (c := bytesOfNat w v) (d := spell l) h).field_bytesOfNat hv, ih hrest hl⟩

/-- A run of numbers that is the whole of the bytes. -/
theorem reads_spell {l : List (Nat × Nat)} (hfits : Fits l) : Reads (spell l) 0 l := (Stands.self _).reads hfits

/-! ### Entries of one width -/

theorem entryBytes_length (width : Nat) (entries : List (List Byte)) : (entryBytes width entries).length = width := by
  simp [entryBytes]

/-- Entries of width `w` up to number `n`, those that are missing being zeros (R175). -/
def padded (w n : Nat) (entries : List (List Byte)) : List (List Byte) :=
  entries ++ List.replicate (n - entries.length) (List.replicate w 0#8)

theorem width_of_mem_padded {w n : Nat} {entries : List (List Byte)} (hw : ∀ e ∈ entries, e.length = w) :
    ∀ e ∈ padded w n entries, e.length = w := by
  intro e he
  rcases List.mem_append.1 he with he | he
  · exact hw e he
  · rw [List.eq_of_mem_replicate he, List.length_replicate]

theorem padded_getElem? {w n k : Nat} (entries : List (List Byte)) (hk : k < n) :
    (padded w n entries)[k]? = some (entries[k]?.getD (List.replicate w 0#8)) := by
  by_cases h : k < entries.length
  · simp [padded, List.getElem?_append, h]
  · have hpad : k - entries.length < n - entries.length := by omega
    simp [padded, List.getElem?_append, h, hpad]

/-- Entries of one width that have room are filled up with zeros (R175). -/
theorem entryBytes_eq_flatten {w n : Nat} {entries : List (List Byte)} (hw : ∀ e ∈ entries, e.length = w)
    (hn : entries.length ≤ n) : entryBytes (w * n) entries = (padded w n entries).flatten := by
  have hlength : entries.flatten.length = w * entries.length := by
    rw [List.length_flatten, List.map_eq_replicate_iff.2 hw, List.sum_replicate, smul_eq_mul, Nat.mul_comm]
  have hroom : entries.flatten.length ≤ w * n := hlength ▸ Nat.mul_le_mul_left w hn
  rw [entryBytes, List.take_of_length_le hroom, hlength, ← Nat.mul_sub, padded, List.flatten_append,
    List.flatten_replicate_replicate, Nat.mul_comm]

theorem stands_flatten {w k : Nat} {e : List Byte} {entries : List (List Byte)} (hw : ∀ e ∈ entries, e.length = w)
    (he : entries[k]? = some e) : Stands e entries.flatten (w * k) := by
  induction entries generalizing k with
  | nil => cases he
  | cons head entries ih =>
    obtain ⟨hhead, hrest⟩ := List.forall_mem_cons.1 hw
    cases k with
    | zero =>
      cases he
      exact (Stands.self (e ++ entries.flatten)).left
    | succ k =>
      have hentry := (ih hrest he).trans (Stands.self (head ++ entries.flatten)).right
      rwa [hhead, Nat.zero_add, Nat.add_comm, ← Nat.mul_succ] at hentry

/-- Place `k` of the entries holds the entry, or zeros where there is none (R175). -/
theorem stands_entryBytes {w n k : Nat} {entries : List (List Byte)} (hw : ∀ e ∈ entries, e.length = w)
    (hn : entries.length ≤ n) (hk : k < n) :
    Stands (entries[k]?.getD (List.replicate w 0#8)) (entryBytes (w * n) entries) (w * k) := by
  rw [entryBytes_eq_flatten hw hn]
  exact stands_flatten (width_of_mem_padded hw) (padded_getElem? entries hk)

end Sys2Proof.Machine
end

section
/-! PROOFS. Transactions of the control port: the bytes of each command (R163, R176), and the held response that the
next transaction shifts out (R161, R162). -/

namespace Sys2Proof.Machine

open Sys2Proof.Machine.Claims

/-! ### The bytes of a command -/

/-- The two tables of argument bytes agree (R176). -/
theorem needs_eq (n : Nat) : needs n = argumentBytes n := by
  by_cases h : n ≤ 20
  · interval_cases n <;> rfl
  · obtain ⟨m, rfl⟩ := Nat.exists_eq_add_of_le (Nat.lt_of_not_le h)
    rw [Nat.add_comm]
    simp [needs, argumentBytes]

/-- Bytes beyond those that the command needs are disregarded (R163). -/
theorem hostCommand_take {sa : Address} {n k : Nat} {args : List Byte} (h : argumentBytes n = some k)
    (hk : k ≤ args.length) : hostCommand sa n (args.take k) = hostCommand sa n args := by
  unfold argumentBytes at h
  split at h <;> cases h
  case h_1 | h_4 | h_5 | h_7 | h_9 | h_11 | h_14 | h_15 | h_18 | h_19 => rfl
  case h_6 | h_8 | h_10 | h_12 | h_13 | h_16 | h_20 =>
    obtain ⟨a, rest, rfl⟩ := List.exists_cons_of_length_pos hk
    rfl
  case h_2 | h_3 | h_17 =>
    obtain ⟨a, rest, rfl⟩ := List.exists_cons_of_length_pos (Nat.lt_of_lt_of_le (by decide) hk)
    obtain ⟨b, rest, rfl⟩ := List.exists_cons_of_length_pos
      (Nat.lt_of_lt_of_le (by decide) (Nat.le_of_succ_le_succ hk))
    simp [hostCommand, List.take_take]

section

variable {sa : Address} {code : Byte} {args : List Byte} {k : Nat}

theorem commandOfTransaction_of_unknown (h : argumentBytes code.toNat = none) :
    commandOfTransaction sa (code :: args) = .unknownCommand := by
  simp [commandOfTransaction, h]

theorem commandOfTransaction_of_short (h : argumentBytes code.toNat = some k) (hk : args.length < k) :
    commandOfTransaction sa (code :: args) = .shortTransaction := by
  simp [commandOfTransaction, h, hk]

theorem commandOfTransaction_of_enough (h : argumentBytes code.toNat = some k) (hk : k ≤ args.length) :
    commandOfTransaction sa (code :: args) = (hostCommand sa code.toNat args).getD .unknownCommand := by
  simp [commandOfTransaction, h, Nat.not_lt.2 hk]

/-- Bytes beyond those that the command needs are disregarded (R163). -/
theorem commandOfTransaction_take (h : argumentBytes code.toNat = some k) (hk : k ≤ args.length) :
    commandOfTransaction sa (code :: args) = commandOfTransaction sa (code :: args.take k) := by
  have htaken : k ≤ (args.take k).length := by rw [List.length_take, Nat.min_eq_left hk]
  rw [commandOfTransaction_of_enough h hk, commandOfTransaction_of_enough h htaken, hostCommand_take h hk]

end

/-- A value of seven bytes is read back from them (R156). -/
theorem commandOfTransaction_writeConfig (sa : Address) (a b : Byte) {v : List Byte} (hv : v.length = 7) :
    commandOfTransaction sa (2#8 :: a :: b :: v) = .writeConfig a b (BitVec.ofNat 56 (natOfBytes v)) := by
  rw [commandOfTransaction_of_enough (k := 9) rfl (by simp [hv])]
  show Instr.writeConfig a b (BitVec.ofNat 56 (natOfBytes (v.take 7))) = _
  rw [List.take_of_length_le hv.le]

theorem commandOfTransaction_sendGroupCommand (sa : Address) (a : Byte) {m : List Byte} (hm : m.length = 2) :
    commandOfTransaction sa (17#8 :: a :: m) = .sendGroupCommand a (BitVec.ofNat 16 (natOfBytes m)) := by
  rw [commandOfTransaction_of_enough (k := 3) rfl (by simp [hm])]
  show Instr.sendGroupCommand a (BitVec.ofNat 16 (natOfBytes (m.take 2))) = _
  rw [List.take_of_length_le hm.le]

/-- Two bytes, the most significant one first, are the number that they make together (Chapter 11). -/
theorem ofNat_natOfBytes_pair (b c : Byte) : BitVec.ofNat 16 (natOfBytes [b, c]) = b ++ c := by
  apply BitVec.eq_of_toNat_eq
  rw [BitVec.toNat_append, ← Nat.shiftLeft_add_eq_or_of_lt c.isLt, Nat.shiftLeft_eq, BitVec.toNat_ofNat]
  show ((0 * 256 + b.toNat) * 256 + c.toNat) % 2 ^ 16 = _
  omega

/-- The transaction that carries a command spells it (R176). -/
theorem commandOfTransaction_transactionOf {sa : Address} {c : Instr} {bytes : List Byte}
    (h : transactionOf c = some bytes) (hsa : ∀ a, c = .restart a → a = sa) : commandOfTransaction sa bytes = c := by
  cases c with
  | writeConfig item index v =>
    cases h
    rw [commandOfTransaction_writeConfig sa item index (bytesOfNat_length 7 _), natOfBytes_bytesOfNat v.isLt,
      BitVec.ofNat_toNat, BitVec.setWidth_eq]
  | sendGroupCommand code mask =>
    cases h
    rw [commandOfTransaction_sendGroupCommand sa code (bytesOfNat_length 2 _), natOfBytes_bytesOfNat mask.isLt,
      BitVec.ofNat_toNat, BitVec.setWidth_eq]
  | restart a =>
    cases h
    rw [hsa a rfl]
    rfl
  | status | readConfig | closeConfig | readCounters | readPeer | readHistory | readHistoryNext | listEpisodes
  | selectEpisode | readHeader | readRecords | releaseEpisode | softwareTrigger | closeEpisode | setLocalHold | rejoin
  | ackAttention =>
    cases h
    rfl
  | linePinChange | vetoPinChange | groupTimeLimit | powerRestart | supplyLoss | resetLow | hardRestart
  | qualificationTimerExpiry | vetoQualificationExpiry | windowExpiry | postTimeExpiry | holdLimitExpiry | lineFree
  | arbitrationLoss | attemptFailure | messageAbandon | silenceTimerExpiry | beaconTimerExpiry | rollCallExpiry
  | startBitReceived | messageInvalid | ownAddressMessage | triggerReceived | beaconReceived | clearCountersReceived
  | holdReceived | resumeReceived | attemptStart | attemptSuccess | shortTransaction | unknownCommand => cases h

/-! ### The held response on SDO -/

theorem sdo_of_idle {s : State} (h : s.port.bus = .idle) (k : Nat) : s.sdo k = none := by
  simp [State.sdo, State.csPin, h]

/-- In a transaction SDO has the bits of the bytes, each byte most significant bit first (R161). -/
theorem sdo_of_transaction {s : State} (hr : s.running = true) (h : s.port.bus ≠ .idle) (k : Nat) :
    s.sdo k = some ((s.sdoByte (k / 8)).getLsbD (7 - k % 8)) := by
  have hsupply : s.power.supply = true := (Bool.and_eq_true_iff.1 hr).1
  have hcs : s.csPin = .low := by
    unfold State.csPin
    split
    · exact absurd ‹_› h
    · rfl
    · rfl
  simp [State.sdo, hcs, hsupply]

theorem sdoByte_zero {s : State} (hr : s.running = true) :
    s.sdoByte 0 = BitVec.ofNat 8 s.port.response.result.code := if_pos hr

/-- Behind the result code stand the response bytes, and then bytes of 0 (R162). -/
theorem sdoByte_succ {s : State} (hr : s.running = true) (k : Nat) :
    s.sdoByte (k + 1) = (s.port.response.body.bytes[k]?).getD 0#8 := if_pos hr

theorem Result.code_eq (r : Result) : (BitVec.ofNat 8 r.code).toNat = resultCode r := by
  cases r <;> rfl

end Sys2Proof.Machine
end

section
/-! PROOFS. The field places of STATUS, READ PEER and records: each response as a run of numbers with their widths (R164,
R165, R175, R176). -/

namespace Sys2Proof.Machine

open Sys2Proof.Machine.Claims

/-! ### Single fields as numbers -/

theorem byteOf_eq (n : Nat) : byteOf n = bytesOfNat 1 n := rfl

theorem flagByte_eq (b : Bool) : flagByte b = bytesOfNat 1 b.toNat := by
  cases b <;> rfl

/-- An optional field is one number, with the presence byte as its most significant one (R176). -/
theorem optionalBytes_eq {α : Type} (w : Nat) (f : α → Nat) {o : Option α} (h : ∀ a ∈ o, f a < 256 ^ w) :
    optionalBytes w f o = bytesOfNat (w + 1) (orZero (fun a => 256 ^ w + f a) o) := by
  rw [Nat.add_comm w 1]
  cases o with
  | none =>
    have hsplit := bytesOfNat_add 1 w 0 (Nat.pow_pos (n := w) (by decide : 0 < 256))
    rw [Nat.mul_zero, Nat.zero_add] at hsplit
    exact hsplit.symm
  | some a =>
    have hsplit := bytesOfNat_add 1 w 1 (h a rfl)
    rw [Nat.mul_one] at hsplit
    exact hsplit.symm

theorem orZero_lt {α : Type} {f : α → Nat} {o : Option α} {n : Nat} (hn : 0 < n) (h : ∀ a ∈ o, f a < n) :
    orZero f o < n := by
  cases o with
  | none => exact hn
  | some a => exact h a rfl

theorem orZero_eq {α : Type} (f : α → Nat) (o : Option α) : (o.map f).getD 0 = orZero f o := by
  cases o <;> rfl

theorem toNat_lt_byte (b : Bool) : b.toNat < 256 := Nat.lt_of_lt_of_le b.toNat_lt (by decide)

theorem restartCauseNumber_lt (c : RestartCause) : restartCauseNumber c < 256 := by cases c <;> decide

theorem MuteReason.code_lt (r : MuteReason) : r.code < 256 := by cases r <;> decide

theorem Claim.code_lt (c : Claim) : c.code < 256 := by cases c <;> decide

theorem Mode.code_lt (m : Mode) : m.code < 256 := by cases m <;> simp [Mode.code]

theorem PeerState.code_lt (p : PeerState) : p.code < 256 := by cases p <;> decide

theorem Role.code_lt (r : Role) : r.code < 256 := by cases r <;> decide

theorem EndStatus.code_lt (e : EndStatus) : e.code < 256 := by cases e <;> decide

/-! ### STATUS (R164) -/

/-- The fields of STATUS, each with its width. -/
def StatusReport.layout (r : StatusReport) : List (Nat × Nat) :=
  [(1, r.mode.code), (2, orZero (fun m => 256 + MuteReason.code m) r.mode.reason), (1, r.address.toNat),
   (1, restartCauseNumber r.restartCause), (2, orZero (fun i => 256 + i.val) r.openSlot),
   (2, orZero (fun c => 256 + Claim.code c) r.claim), (1, r.occupied.toNat), (1, r.ownBusy.toNat),
   (1, r.groupBusy.toNat), (1, r.localHold.toNat), (1, r.groupHold.toNat), (1, r.freeSlots), (2, r.freeEntries),
   (4, r.highest.toNat), (6, r.groupTime.toNat), (1, r.failures), (1, r.attention.toNat),
   (1, r.attentionMask.toNat)]

theorem StatusReport.bytes_eq (r : StatusReport) : r.bytes = spell r.layout := by
  have hreason := optionalBytes_eq 1 MuteReason.code (o := r.mode.reason) fun m _ => m.code_lt
  have hslot := optionalBytes_eq 1 Fin.val (o := r.openSlot) fun i _ => i.isLt.trans (by decide)
  have hclaim := optionalBytes_eq 1 Claim.code (o := r.claim) fun c _ => c.code_lt
  unfold StatusReport.bytes layout spell
  simp [hreason, hslot, hclaim, byteOf_eq, flagByte_eq]

theorem StatusReport.layout_fits {r : StatusReport} (hs : r.freeSlots ≤ 8) (he : r.freeEntries ≤ 1024)
    (hf : r.failures ≤ 16) : Fits r.layout := by
  have hmode := r.mode.code_lt
  have hcause := restartCauseNumber_lt r.restartCause
  have hreason : orZero (fun m => 256 + MuteReason.code m) r.mode.reason < 65536 :=
    orZero_lt (by decide) fun m _ => by have := m.code_lt; omega
  have hslot : orZero (fun i => 256 + i.val) r.openSlot < 65536 := orZero_lt (by decide) fun i _ => by omega
  have hclaim : orZero (fun c => 256 + Claim.code c) r.claim < 65536 :=
    orZero_lt (by decide) fun c _ => by have := c.code_lt; omega
  have haddress := r.address.isLt
  have hhighest := r.highest.isLt
  have htime := r.groupTime.isLt
  have hattention := r.attention.isLt
  have hmask := r.attentionMask.isLt
  simp only [layout, fits_cons, fits_nil, toNat_lt_byte, true_and, and_true, Nat.reducePow]
  omega

theorem statusPlaced {r : StatusReport} (hfits : Fits r.layout) : StatusPlaced r := by
  have hreads := reads_spell hfits
  have hlength : r.bytes.length = 30 := by simp [r.bytes_eq, spell_length, StatusReport.layout]
  rw [← r.bytes_eq] at hreads
  obtain ⟨hmode, hreason, haddress, hcause, hslot, hclaim, hoccupied, hown, hgroup, hlocal, hhold, hslots, hentries,
    hhighest, htime, hfailures, hattention, hmask, -⟩ := hreads
  refine ⟨hlength, hmode.trans ?_, hreason.trans ?_, haddress, hcause.trans ?_, hslot, hclaim.trans ?_, hoccupied, hown,
    hgroup, hlocal, hhold, hslots, hentries, hhighest, htime, hfailures, hattention, hmask⟩
  · cases r.mode <;> rfl
  · rcases r.mode with _ | _ | _ | m
    · rfl
    · rfl
    · rfl
    · cases m <;> rfl
  · cases r.restartCause <;> rfl
  · rcases r.claim with _ | c
    · rfl
    · cases c <;> rfl

/-! ### READ PEER (R165) -/

/-- The fields of READ PEER, each with its width. -/
def PeerReport.layout (r : PeerReport) : List (Nat × Nat) :=
  [(1, r.state.code), (2, orZero (fun i => 256 + i.toNat) r.interval), (3, orZero (fun t => 65536 + t) r.sinceHeard),
   (5, orZero (fun n => 4294967296 + n.toNat) r.highest), (1, r.busy.toNat), (1, r.groupHold.toNat),
   (1, r.localHold.toNat), (1, r.rollCallMark.toNat)]

theorem PeerReport.bytes_eq {r : PeerReport} (ht : ∀ t, r.sinceHeard = some t → t ≤ 65535) :
    r.bytes = spell r.layout := by
  have hsince : ∀ t ∈ r.sinceHeard, id t < 256 ^ 2 := fun t h => Nat.lt_succ_of_le (ht t h)
  have hinterval := optionalBytes_eq 1 BitVec.toNat (o := r.interval) fun i _ => i.isLt
  have hhighest := optionalBytes_eq 4 BitVec.toNat (o := r.highest) fun n _ => n.isLt
  unfold PeerReport.bytes layout spell
  simp [hinterval, optionalBytes_eq 2 id hsince, hhighest, byteOf_eq, flagByte_eq]

theorem PeerReport.layout_fits {r : PeerReport} (ht : ∀ t, r.sinceHeard = some t → t ≤ 65535) : Fits r.layout := by
  have hstate := r.state.code_lt
  have hinterval : orZero (fun i => 256 + i.toNat) r.interval < 65536 := orZero_lt (by decide) fun i _ => by omega
  have hsince : orZero (fun t => 65536 + t) r.sinceHeard < 16777216 :=
    orZero_lt (by decide) fun t h => by have := ht t h; omega
  have hhighest : orZero (fun n => 4294967296 + n.toNat) r.highest < 1099511627776 :=
    orZero_lt (by decide) fun n _ => by have := n.isLt; omega
  simp only [layout, fits_cons, fits_nil, toNat_lt_byte, and_true, Nat.reducePow]
  exact ⟨hstate, hinterval, hsince, hhighest⟩

theorem peerPlaced {r : PeerReport} (ht : ∀ t, r.sinceHeard = some t → t ≤ 65535) : PeerPlaced r := by
  have hreads := reads_spell (PeerReport.layout_fits ht)
  have hlength : r.bytes.length = 15 := by simp [r.bytes_eq ht, spell_length, PeerReport.layout]
  rw [← r.bytes_eq ht] at hreads
  obtain ⟨hstate, hinterval, hsince, hhighest, hbusy, hgroup, hlocal, hmark, -⟩ := hreads
  refine ⟨hlength, hstate.trans ?_, hinterval, hsince, hhighest, hbusy, hgroup, hlocal, hmark⟩
  cases r.state <;> rfl

/-! ### Records (R175) -/

/-- The fields of a record, each with its width. -/
def Record.layout (r : Record) : List (Nat × Nat) :=
  [(2, r.seq.toNat), (6, r.time.toNat), (1, r.body.kindCode), (1, r.body.source),
   (1, (if r.body.value.isSome then 128 else 0) + r.body.flagCode), (6, r.body.value.getD 0)]

theorem Record.bytes_eq (r : Record) : r.bytes = spell r.layout := by
  unfold Record.bytes layout spell
  simp [byteOf_eq]

theorem RecordBody.kindCode_lt (b : RecordBody) : b.kindCode < 256 := by
  cases b <;> simp [RecordBody.kindCode]

theorem RecordBody.source_lt (b : RecordBody) : b.source < 256 := by
  unfold RecordBody.source
  split <;> omega

theorem SuppressedFlag.code_le (f : SuppressedFlag) : f.code ≤ 4 := by cases f <;> decide

theorem restartCauseNumber_le (c : RestartCause) : restartCauseNumber c ≤ 3 := by cases c <;> decide

theorem RecordBody.flagCode_le (b : RecordBody) : b.flagCode ≤ 4 := by
  unfold RecordBody.flagCode
  split
  case h_10 => exact SuppressedFlag.code_le _
  case h_19 => exact (restartCauseNumber_le _).trans (by decide)
  all_goals decide

theorem CauseCode.number_le (c : CauseCode) : c.number ≤ 5 := by
  unfold CauseCode.number
  split <;> omega

/-- A value goes into its six bytes, where a count does (R22, R23). -/
theorem RecordBody.value_lt {b : RecordBody} (hfire : ∀ k n, b = .fire k n → n ≤ 256) : b.value.getD 0 < 256 ^ 6 := by
  have hword : ∀ n : Word32, n.toNat < 256 ^ 6 := fun n => n.isLt.trans (by decide)
  cases b with
  | edge _ v _ => exact hword v
  | remoteTrigger _ n _ => exact hword n
  | gap n => exact hword n
  | timeStep _ n => exact n.isLt
  | fire k n => exact (hfire k n rfl).trans_lt (by decide)
  | anchor c _ => exact c.number_le.trans_lt (by decide)
  | wrap | vetoOn | vetoOff | suppressed | peerLost | peerBack | peerRestart =>
    exact (by decide : 0 < 256 ^ 6)

/-- The two tables of kind, source, value and flag code agree (R22, R23, R175). -/
theorem recordFields_eq (b : RecordBody) : recordFields b = (b.kindCode, b.source, b.value, b.flagCode) := by
  cases b with
  | edge n v d => cases d <;> rfl
  | anchor c f =>
    rcases c with c | _
    · cases c <;> cases f <;> rfl
    · cases f <;> rfl
  | suppressed c f => cases c <;> cases f <;> rfl
  | remoteTrigger a n f =>
    rcases f with _ | f
    · rfl
    · cases f <;> rfl
  | peerRestart a c => cases c <;> rfl
  | wrap | vetoOn | vetoOff | fire | gap | timeStep | peerLost | peerBack => rfl

theorem Record.layout_fits {r : Record} (hfire : ∀ k n, r.body = .fire k n → n ≤ 256) : Fits r.layout := by
  have hseq := r.seq.isLt
  have htime := r.time.isLt
  have hkind := r.body.kindCode_lt
  have hsource := r.body.source_lt
  have hflag := r.body.flagCode_le
  have hvalue := RecordBody.value_lt hfire
  simp only [layout, fits_cons, fits_nil, and_true]
  refine ⟨hseq, htime, hkind, hsource, ?_, hvalue⟩
  split <;> omega

theorem recordPlaced {r : Record} (hfire : ∀ k n, r.body = .fire k n → n ≤ 256) : RecordPlaced r := by
  have hreads := reads_spell (Record.layout_fits hfire)
  have hlength : r.bytes.length = 17 := by simp [r.bytes_eq, spell_length, Record.layout]
  rw [← r.bytes_eq] at hreads
  obtain ⟨hseq, htime, hkind, hsource, hflags, hvalue, -⟩ := hreads
  rw [RecordPlaced, recordFields_eq]
  refine ⟨hlength, hseq, htime, hkind, hsource, hflags, hvalue.trans ?_⟩
  cases r.body.value <;> rfl

end Sys2Proof.Machine
end

section
/-! PROOFS. The field places of a header: three runs of numbers, and the causes and counters between them (R175). -/

namespace Sys2Proof.Machine

open Sys2Proof.Machine.Claims

/-! ### Cause entries and snapshot pairs -/

theorem CauseCode.number_own (c : OwnCause) : (CauseCode.own c).number = (causeCode c).toNat := by
  cases c with
  | unit k => exact (Nat.mod_eq_of_lt (k.isLt.trans (by decide))).symm
  | software => rfl

/-- The cause code, the station and the station's cause code of an entry, as one number. -/
def CauseEntry.cause : CauseEntry → Nat
  | .own c _ => 65536 * (causeCode c).toNat
  | .remote a c _ => 65536 * 5 + 256 * a.toNat + (causeCode c).toNat

def CauseEntry.fireTime : CauseEntry → Time
  | .own _ t => t
  | .remote _ _ t => t

/-- Three bytes make one number (Chapter 11). -/
theorem bytesOfNat_three (x : Nat) {y z : Nat} (hy : y < 256) (hz : z < 256) :
    byteOf x ++ byteOf y ++ byteOf z = bytesOfNat 3 (65536 * x + 256 * y + z) := by
  have hfirst : bytesOfNat 2 (256 * x + y) = byteOf x ++ byteOf y := bytesOfNat_add 1 1 x hy
  have hall : bytesOfNat 3 (256 * (256 * x + y) + z) = bytesOfNat 2 (256 * x + y) ++ byteOf z :=
    bytesOfNat_add 2 1 _ hz
  rw [← hfirst, ← hall]
  congr 1
  omega

theorem CauseEntry.bytes_eq (c : CauseEntry) : c.bytes = bytesOfNat 3 c.cause ++ bytesOfNat 6 c.fireTime.toNat := by
  cases c with
  | own c t => rw [CauseEntry.bytes, bytesOfNat_three _ (by decide) (by decide), CauseCode.number_own]; rfl
  | remote a c t =>
    have ha : a.toNat < 256 := a.isLt.trans (by decide)
    rw [CauseEntry.bytes, CauseCode.number_own, bytesOfNat_three 5 ha (causeCode c).isLt]
    rfl

theorem CauseEntry.bytes_length (c : CauseEntry) : c.bytes.length = 9 := by
  simp [CauseEntry.bytes_eq]

theorem CauseEntry.cause_lt (c : CauseEntry) : c.cause < 256 ^ 3 := by
  cases c with
  | own c t =>
    have hc := (causeCode c).isLt
    show 65536 * (causeCode c).toNat < 256 ^ 3
    omega
  | remote a c t =>
    have ha := a.isLt
    have hc := (causeCode c).isLt
    show 65536 * 5 + 256 * a.toNat + (causeCode c).toNat < 256 ^ 3
    omega

/-- Where the bytes of a cause entry stand, or zeros for none, its fields are placed (R175). -/
theorem Stands.causePlaced {o : Option CauseEntry} {b : List Byte} {start : Nat}
    (h : Stands ((o.map CauseEntry.bytes).getD (List.replicate 9 0#8)) b start) : CausePlaced b start o := by
  cases o with
  | none => exact h.field rfl
  | some c =>
    have hentry : Stands (bytesOfNat 3 c.cause ++ bytesOfNat 6 c.fireTime.toNat) b start := c.bytes_eq ▸ h
    have hcause := hentry.left.field_bytesOfNat c.cause_lt
    have htime := hentry.right.field_bytesOfNat c.fireTime.isLt
    rw [bytesOfNat_length] at htime
    cases c <;> exact ⟨hcause, htime⟩

theorem pairBytes_eq (p : Fin 16 × Word32) : pairBytes p = bytesOfNat 5 (4294967296 * p.1.val + p.2.toNat) :=
  (bytesOfNat_add 1 4 p.1.val p.2.isLt).symm

theorem Stands.pair_field {o : Option (Fin 16 × Word32)} {b : List Byte} {start : Nat}
    (h : Stands ((o.map pairBytes).getD (List.replicate 5 0#8)) b start) :
    Claims.field b start 5 = orZero (fun p => 4294967296 * p.1.val + p.2.toNat) o := by
  cases o with
  | none => exact h.field rfl
  | some p =>
    have hpair : Stands (bytesOfNat 5 (4294967296 * p.1.val + p.2.toNat)) b start := pairBytes_eq p ▸ h
    refine hpair.field_bytesOfNat ?_
    have hvalue := p.2.isLt
    omega

/-! ### The header -/

/-- The fields of a header before its causes, each with its width. -/
def Header.front (h : Header) : List (Nat × Nat) :=
  [(1, h.slot.val), (1, h.presence), (4, orZero BitVec.toNat h.number), (1, h.role.code),
   (1, orZero BitVec.toNat h.originator), (6, h.anchorTime.toNat), (6, orZero BitVec.toNat h.originTime),
   (1, h.causes.length)]

/-- The fields of a header between its causes and its snapshot. -/
def Header.counts (h : Header) : List (Nat × Nat) :=
  [(1, h.preCount), (2, h.postCount), (1, h.snapshot.length)]

/-- The fields of a header after its snapshot. -/
def Header.ending (h : Header) (held : Nat) : List (Nat × Nat) :=
  [(1, orZero EndStatus.code h.endStatus), (1, h.flags.number), (2, held)]

theorem Header.bytes_eq (h : Header) (held : Nat) :
    h.bytes held = spell h.front ++ (entryBytes 36 (h.causes.map CauseEntry.bytes) ++ (spell h.counts
      ++ (entryBytes 80 (h.snapshot.map pairBytes) ++ spell (h.ending held)))) := by
  unfold Header.bytes spell front counts ending
  simp [byteOf_eq, orZero_eq]

/-- Where the five parts of a header stand. -/
theorem Header.stands (h : Header) (held : Nat) :
    Stands (spell h.front) (h.bytes held) 0 ∧
    Stands (entryBytes (9 * 4) (h.causes.map CauseEntry.bytes)) (h.bytes held) 21 ∧
    Stands (spell h.counts) (h.bytes held) 57 ∧
    Stands (entryBytes (5 * 16) (h.snapshot.map pairBytes)) (h.bytes held) 61 ∧
    Stands (spell (h.ending held)) (h.bytes held) 141 := by
  have hfront : (spell h.front).length = 21 := by simp [spell_length, front]
  have hcounts : (spell h.counts).length = 4 := by simp [spell_length, counts]
  have hall := Stands.self (h.bytes held)
  rw [h.bytes_eq held] at hall ⊢
  have hcauses := hall.right
  rw [hfront] at hcauses
  have hmiddle := hcauses.right
  rw [entryBytes_length] at hmiddle
  have hsnapshot := hmiddle.right
  rw [hcounts] at hsnapshot
  have hending := hsnapshot.right
  rw [entryBytes_length] at hending
  exact ⟨hall.left, hcauses.left, hmiddle.left, hsnapshot.left, hending⟩

theorem Header.bytes_length (h : Header) (held : Nat) : (h.bytes held).length = 145 := by
  simp [bytes_eq, spell_length, entryBytes_length, front, counts, ending]

/-! ### The places of its fields -/

theorem Header.front_reads {h : Header} (held : Nat) (hc : h.causes.length ≤ 4) :
    Reads (h.bytes held) 0 h.front := by
  obtain ⟨hfront, -⟩ := h.stands held
  refine hfront.reads ?_
  have hpresence : h.presence < 256 := by
    have hnumber := h.number.isSome.toNat_lt
    have horiginator := h.originator.isSome.toNat_lt
    have htime := h.originTime.isSome.toNat_lt
    unfold presence
    omega
  have hnumber : orZero BitVec.toNat h.number < 4294967296 := orZero_lt (by decide) fun n _ => n.isLt
  have horiginator : orZero BitVec.toNat h.originator < 256 :=
    orZero_lt (by decide) fun a _ => a.isLt.trans (by decide)
  have htime : orZero BitVec.toNat h.originTime < 281474976710656 := orZero_lt (by decide) fun t _ => t.isLt
  have hrole := h.role.code_lt
  have hanchor := h.anchorTime.isLt
  simp only [front, fits_cons, fits_nil, and_true, Nat.reducePow]
  omega

theorem Header.counts_reads {h : Header} (held : Nat) (hpre : h.preCount ≤ 255) (hpost : h.postCount ≤ 512)
    (hs : h.snapshot.length ≤ 16) : Reads (h.bytes held) 57 h.counts := by
  obtain ⟨-, -, hcounts, -⟩ := h.stands held
  refine hcounts.reads ?_
  simp only [counts, fits_cons, fits_nil, and_true, Nat.reducePow]
  omega

theorem HeaderFlags.number_lt (f : HeaderFlags) : f.number < 256 := by
  have hgap := f.gapBefore.toNat_lt
  have hstepped := f.timeStepped.toNat_lt
  have hoverflow := f.causesOverflow.toNat_lt
  have htruncated := f.truncatedPre.toNat_lt
  unfold number
  omega

theorem Header.ending_reads (h : Header) {held : Nat} (hh : held ≤ 1024) :
    Reads (h.bytes held) 141 (h.ending held) := by
  obtain ⟨-, -, -, -, hending⟩ := h.stands held
  refine hending.reads ?_
  have hstatus : orZero EndStatus.code h.endStatus < 256 := orZero_lt (by decide) fun e _ => e.code_lt
  have hflags := h.flags.number_lt
  simp only [ending, fits_cons, fits_nil, and_true, Nat.reducePow]
  omega

theorem Header.causePlaced {h : Header} (held : Nat) (hc : h.causes.length ≤ 4) {k : Nat} (hk : k < 4) :
    CausePlaced (h.bytes held) (21 + 9 * k) h.causes[k]? := by
  obtain ⟨-, hcauses, -⟩ := h.stands held
  have hwidth : ∀ e ∈ h.causes.map CauseEntry.bytes, e.length = 9 :=
    List.forall_mem_map.2 fun c _ => c.bytes_length
  have hplace := stands_entryBytes hwidth (by rwa [List.length_map]) hk
  rw [List.getElem?_map] at hplace
  exact (hplace.trans hcauses).causePlaced

theorem Header.pair_field {h : Header} (held : Nat) (hs : h.snapshot.length ≤ 16) {k : Nat} (hk : k < 16) :
    field (h.bytes held) (61 + 5 * k) 5 = orZero (fun p => 4294967296 * p.1.val + p.2.toNat) h.snapshot[k]? := by
  obtain ⟨-, -, -, hsnapshot, -⟩ := h.stands held
  have hwidth : ∀ e ∈ h.snapshot.map pairBytes, e.length = 5 :=
    List.forall_mem_map.2 fun p _ => by simp [pairBytes_eq]
  have hplace := stands_entryBytes hwidth (by rwa [List.length_map]) hk
  rw [List.getElem?_map] at hplace
  exact (hplace.trans hsnapshot).pair_field

theorem headerPlaced {h : Header} {held : Nat} (hc : h.causes.length ≤ 4) (hs : h.snapshot.length ≤ 16)
    (hpre : h.preCount ≤ 255) (hpost : h.postCount ≤ 512) (hh : held ≤ 1024) : HeaderPlaced h held := by
  obtain ⟨hslot, hpresence, hnumber, hrole, horiginator, hanchor, htime, hcauses, -⟩ := Header.front_reads held hc
  obtain ⟨hpres, hposts, hpairs, -⟩ := Header.counts_reads held hpre hpost hs
  obtain ⟨hstatus, hflags, hheld, -⟩ := h.ending_reads hh
  refine ⟨h.bytes_length held, hslot, hpresence, hnumber, hrole.trans ?_, horiginator, hanchor, htime, hcauses,
    fun k => Header.causePlaced held hc, hpres, hposts, hpairs, fun k => Header.pair_field held hs,
    hstatus.trans ?_, hflags, hheld⟩
  · cases h.role <;> rfl
  · rcases h.endStatus with _ | e
    · rfl
    · cases e <;> rfl

end Sys2Proof.Machine
end

section
/-! PROOFS. The control port's bytes: short and unknown transactions, the bytes of commands, the held response, and the
places of its fields (R161 to R165, R175, R176). -/

namespace Sys2Proof.Machine

open Sys2Proof.Machine.Claims

theorem exec_shortTransaction {s : State} (hs : Listens s) :
    exec .shortTransaction s = .next (s.answer { result := .short, body := .empty }) := by
  show execShortTransaction s = _
  rw [execShortTransaction, transact_of_listens hs]
  rfl

theorem exec_unknownCommand {s : State} (hs : Listens s) :
    exec .unknownCommand s = .next (s.answer { result := .unknown, body := .empty }) := by
  show execUnknownCommand s = _
  rw [execUnknownCommand, transact_of_listens hs]
  rfl

/-- Settles O60: the transactions by their bytes, the response on SDO, and the layouts of the four responses. -/
theorem portBytesSpellCommandsAndResponses : Obligations.PortBytesSpellCommandsAndResponses := by
  refine ⟨fun s hs => ⟨exec_shortTransaction hs, exec_unknownCommand hs⟩,
    fun sa c bytes => commandOfTransaction_transactionOf, fun _ => rfl, fun _ _ => rfl,
    fun sa a b c v hv => ⟨rfl, ?_, commandOfTransaction_writeConfig sa a b hv⟩, fun _ => rfl,
    fun sa code args => ?_, fun s k hr => ?_,
    fun r hslots hentries hfailures => statusPlaced (StatusReport.layout_fits hslots hentries hfailures),
    fun r => peerPlaced, fun r => recordPlaced, fun h held => headerPlaced⟩
  · rw [commandOfTransaction_sendGroupCommand sa a rfl, ofNat_natOfBytes_pair]
  · rw [needs_eq]
    exact ⟨commandOfTransaction_of_unknown, fun k => commandOfTransaction_of_short,
      fun k => commandOfTransaction_take⟩
  · refine ⟨fun h => sdo_of_idle h k, fun h => sdo_of_transaction hr h k, ?_, fun h => ?_, fun h => ?_⟩
    · rw [sdoByte_zero hr, Result.code_eq]
    · rw [sdoByte_succ hr, List.getElem?_eq_getElem h, Option.getD_some]
    · rw [sdoByte_succ hr, List.getElem?_eq_none h, Option.getD_none]

end Sys2Proof.Machine
end

section
/-! PROOFS. The queue: a step on a queue that is not empty takes its front. With `step_of_empty_queue` this says what a step
is on every queue (log 1). -/

namespace Sys2Proof.Machine

theorem step_of_queue_cons {s : State} {c : Instr} {rest : List Instr} (h : s.pending = c :: rest) :
    step s = exec c (s.setPending rest) := by
  simp only [step, h]

/-- Settles O1: `State.setPending` writes the queue and no other field, so the command runs on the state as it stood. -/
theorem stepRunsFrontCommand : Obligations.StepRunsFrontCommand := by
  intro c rest s hqueue
  have hpopped : s.setPending rest = { s with pending := rest } := rfl
  rw [step_of_queue_cons hqueue, hpopped]

end Sys2Proof.Machine
end
